-- ==== Sys2Proof/Word.lean ====
section
/-! DEFINITION. The word types of the pulse-train decode core (00_scope.md rules R7 and R9): the host
port moves 32-bit words at 14-bit word addresses, a frame byte has 8 bits. -/

namespace Sys2Proof

/-- A 32-bit word of the host port, and every u32 or i32 register (rule R7). -/
abbrev Word := BitVec 32

/-- A 14-bit word address of the host port (rule R60). -/
abbrev Addr := BitVec 14

/-- One byte of the frame register file (rule R40). -/
abbrev Byte := BitVec 8

/-- The four stored bits of CTRL: POLICY = bits 1:0, DIFF = bit 2, LENIENT = bit 3 (rule R25). -/
abbrev Ctrl := BitVec 4

end Sys2Proof
end

