-- ==== Sys2Proof/Config.lean ====
section
/-! DEFINITION. What an implementation of the core fixes: the capacity parameters, the constants of
the DhtMarkSpace policy, the tolerance multiplier of the triple width, and the free values that the
spec calls unspecified. -/

namespace Sys2Proof

/-- The capacity parameters of one core (00_scope.md rule R5). They are arguments of the model: a
state carries them, nothing changes them. -/
structure Params where
  /-- `RAW_CAP`: entries of the raw buffer. -/
  rawCap : Nat
  /-- `PAT_CAP`: entries of each preamble pattern. -/
  patCap : Nat
deriving DecidableEq, Repr

/-- `UNIT_CAP = 4 * RAW_CAP` (rule R5). -/
def Params.unitCap (p : Params) : Nat := 4 * p.rawCap

/-- `FRAME_CAP = RAW_CAP / 4` (rule R5). -/
def Params.frameCap (p : Params) : Nat := p.rawCap / 4

/-- The default capacities, RAW_CAP = 64 and PAT_CAP = 8 (rule R5). -/
def Params.standard : Params := { rawCap := 64, patCap := 8 }

/-- The EncodingPolicy tag held in CTRL.POLICY (10_state.md rule R25). -/
inductive Policy where
  | dhtMarkSpace
  | manchester
  | pulseDistance
  | reserved
deriving DecidableEq, Repr

/-- The multiple `m` of a window test, for `m` in 1, 2, 3 (40_pulse_classifier.md rule R100). -/
inductive Multiple where
  | single
  | double
  | triple
deriving DecidableEq, Repr

namespace Config

/-- DHT_SEP_LO (00_scope.md rule R6). -/
def dhtSepLo : Nat := 44
/-- DHT_SEP_HI (rule R6). -/
def dhtSepHi : Nat := 56
/-- DHT_ONE_LO (rule R6). -/
def dhtOneLo : Nat := 65
/-- DHT_ONE_HI (rule R6). -/
def dhtOneHi : Nat := 75
/-- DHT_ZERO_LO (rule R6). -/
def dhtZeroLo : Nat := 20
/-- DHT_ZERO_HI (rule R6). -/
def dhtZeroHi : Nat := 34
/-- DHT_BITS (rule R6). -/
def dhtBits : Nat := 40
/-- The frame length to which the NEC-style check applies (44_checksum_validator.md rule R203). -/
def necBits : Nat := 32
/-- TRIPLE_TOL_MULT (00_scope.md rule R8). -/
def tripleTolMult : Nat := 3

/-- FREE VALUE (assumption log entry 4). What a word of the arrays START_PAT, STOP_PAT, RAW and UNIT holds after reset: the
spec leaves it unspecified (10_state.md rule R46, 93_implementation_defined.md entry U1). The first
argument counts the resets applied so far, so that no two resets are tied to the same contents; the
second is the word address. The constant has no body: nothing can be proved of its values. -/
opaque unspecified : Nat → Nat → BitVec 32

end Config

end Sys2Proof
end

