-- ==== Sys2Proof/Syntax.lean ====
section
/-! DEFINITION. The commands of the core: one constructor per row of spec/opcode_table.json. A
command word has no operands (30_encoding.md rule R81). ASSEMBLE and VALIDATE are one command word
each; which of their rows applies is decided by CTRL.POLICY and CTRL.DIFF (rule R84). -/

namespace Sys2Proof

inductive Instr where
  /-- NOP (45_control_commands.md rule R222). -/
  | nop
  /-- CLEAR (rule R223). -/
  | clear
  /-- CLASSIFY (40_pulse_classifier.md rule R104). -/
  | classify
  /-- NORMALIZE (41_pulse_normalizer.md rule R121). -/
  | normalize
  /-- MATCH (42_preamble_matcher.md rule R142); `match` is a word of Lean. -/
  | matchPreamble
  /-- ASSEMBLE.DHT (43_bit_assembler.md rule R164). -/
  | assembleDht
  /-- ASSEMBLE.MAN (rule R167). -/
  | assembleMan
  /-- ASSEMBLE.DMAN (rule R168). -/
  | assembleDman
  /-- ASSEMBLE.PD (rule R171). -/
  | assemblePd
  /-- VALIDATE.DHT (44_checksum_validator.md rule R201). -/
  | validateDht
  /-- VALIDATE.NONE (rule R204). -/
  | validateNone
  /-- VALIDATE.NEC (rule R203). -/
  | validateNec
  /-- DECODE (45_control_commands.md rule R226). -/
  | decode
deriving DecidableEq, Repr

end Sys2Proof
end

