-- ==== Sys2Proof/Decode.lean ====
section
/-! DEFINITION. The decoder of command words, total on all 2^32 words and rejecting by name
(30_encoding.md rules R81 to R84), and the encoder, written from table T82. Which row of ASSEMBLE or
VALIDATE a word stands for depends on CTRL as it is at the moment of the write (20_memory.md rule
R68), so the decoder takes the stored bits of CTRL beside the word. -/

namespace Sys2Proof

/-- What the decoder makes of a command word. -/
inductive Decoded where
  /-- The word is the command of this row of the opcode table. -/
  | instr (i : Instr)
  /-- `op` is 0x8 to 0xF or a reserved bit is 1 (rule R83). -/
  | illegalWord
  /-- ASSEMBLE or VALIDATE while CTRL.POLICY holds the reserved code 3: no row applies (rule R84). -/
  | reservedPolicy
deriving DecidableEq, Repr

/-- CTRL.POLICY, bits 1:0 (10_state.md rule R25). -/
def ctrlPolicy (ctrl : Ctrl) : Policy :=
  match ctrl[1], ctrl[0] with
  | false, false => .dhtMarkSpace
  | false, true => .manchester
  | true, false => .pulseDistance
  | true, true => .reserved

/-- CTRL.DIFF, bit 2 (rule R25). -/
def ctrlDiff (ctrl : Ctrl) : Bool := ctrl[2]

/-- CTRL.LENIENT, bit 3 (rule R25). -/
def ctrlLenient (ctrl : Ctrl) : Bool := ctrl[3]

/-- The row of ASSEMBLE that CTRL selects (rule R84). -/
def decodeAssemble (c : Ctrl) : Decoded :=
  match ctrlPolicy c with
  | .dhtMarkSpace => .instr .assembleDht
  | .manchester => if ctrlDiff c then .instr .assembleDman else .instr .assembleMan
  | .pulseDistance => .instr .assemblePd
  | .reserved => .reservedPolicy

/-- The row of VALIDATE that CTRL selects (rule R84). -/
def decodeValidate (c : Ctrl) : Decoded :=
  match ctrlPolicy c with
  | .dhtMarkSpace => .instr .validateDht
  | .manchester => .instr .validateNone
  | .pulseDistance => .instr .validateNec
  | .reserved => .reservedPolicy

/-- The command of a word whose reserved bits are 0, by its opcode (table T82). -/
def decodeOp (c : Ctrl) (op : Nat) : Decoded :=
  match op with
  | 0 => .instr .nop
  | 1 => .instr .clear
  | 2 => .instr .classify
  | 3 => .instr .normalize
  | 4 => .instr .matchPreamble
  | 5 => decodeAssemble c
  | 6 => decodeValidate c
  | 7 => .instr .decode
  | _ => .illegalWord

/-- The command word `w` while CTRL holds `c`: `op` = bits 3:0, bits 31:4 must be 0 (rules R81, R83). -/
def decodeWord (c : Ctrl) (w : Word) : Decoded :=
  if w.extractLsb' 4 28 = 0#28 then decodeOp c (w.extractLsb' 0 4).toNat else .illegalWord

/-- The command word of a row (table T82). -/
def encode : Instr → Word
  | .nop => 0x00000000#32
  | .clear => 0x00000001#32
  | .classify => 0x00000002#32
  | .normalize => 0x00000003#32
  | .matchPreamble => 0x00000004#32
  | .assembleDht | .assembleMan | .assembleDman | .assemblePd => 0x00000005#32
  | .validateDht | .validateNone | .validateNec => 0x00000006#32
  | .decode => 0x00000007#32

/-- The bits of CTRL right after reset, under which `decodeTableWord` decodes (10_state.md rule R46). -/
def resetCtrl : Ctrl := 0#4

/-- The command that the decoder reads from the low `nbits` bits of `w`, the bits above being 0, while
CTRL holds its reset value. A number that does not fit in one 32-bit command word is no command. -/
def decodeTableWord (nbits w : Nat) : Option Instr :=
  if w % 2 ^ nbits < 2 ^ 32 then
    match decodeWord resetCtrl (BitVec.ofNat 32 (w % 2 ^ nbits)) with
    | .instr i => some i
    | .illegalWord => none
    | .reservedPolicy => none
  else none

end Sys2Proof
end

