-- ==== Sys2Proof/Machine/State.lean ====
section
/-! DEFINITION. The state of one core as plain data (10_state.md rule R20), grouped as that rule
groups it, the host port beside it, the reasons a step can stop, and the state after reset. -/

namespace Sys2Proof.Machine

/-! ## The records of the spec's data model -/

/-- A signal level, one bit: Low = 0, High = 1 (00_scope.md rule R12). -/
inductive Level where
  | low
  | high
deriving DecidableEq, Repr

/-- The `level` code of a pattern entry, two bits: Low, High, Either, reserved (10_state.md rule R30). -/
inductive PatLevel where
  | low
  | high
  | either
  | reserved
deriving DecidableEq, Repr

/-- The two halves of a raw symbol (00_scope.md rule R15), and the values of ERR_HALF (rule R33). -/
inductive Half where
  | first
  | second
deriving DecidableEq, Repr

/-- One RawSymbol (10_state.md rule R32). -/
structure RawSymbol where
  dur0 : Word
  dur1 : Word
  level0 : Level
  level1 : Level
deriving DecidableEq, Repr

/-- One UnitPulse (rule R38). -/
structure UnitPulse where
  level : Level
  dur : Word
deriving DecidableEq, Repr

/-- One entry of a preamble pattern (rule R30). -/
structure PatEntry where
  level : PatLevel
  mult : Word
deriving DecidableEq, Repr

/-- The result of `Classify` (40_pulse_classifier.md rule R101). -/
inductive PulseClass where
  | invalid
  | single
  | double
deriving DecidableEq, Repr

/-- The DecodeError kinds and "none", STATUS.ERR_KIND (10_state.md table T33). -/
inductive ErrKind where
  | noError
  | invalidPulseWidth
  | incompleteFrame
  | checksumMismatch
deriving DecidableEq, Repr

/-- The units of STATUS.ERR_UNIT (table T33). The code 1, U1, is never raised; the code 7 is reserved
and is no unit. -/
inductive ErrUnit where
  | noUnit
  | classifier
  | normalizer
  | matcher
  | assembler
  | validator
  | frameGate
deriving DecidableEq, Repr

/-- The validation status STATUS.CHK (table T33). -/
inductive Chk where
  | notRun
  | pass
  | fail
  | notApplicable
deriving DecidableEq, Repr

/-- The outcome of the latest write to CMD, STATUS.CMD_ERR (table T33). -/
inductive CmdErr where
  | accepted
  | illegalWord
  | badConfig
deriving DecidableEq, Repr

/-- One DecodeError as `raise` records it (60_exceptions.md rule R244); `index` is an i32. -/
structure DecodeError where
  kind : ErrKind
  unit : ErrUnit
  index : Word
  half : Half
deriving DecidableEq, Repr

/-! ## The registers -/

/-- STATUS, field by field (10_state.md table T33). NEC_FAIL is held as its two bits. -/
structure Status where
  done : Bool
  errKind : ErrKind
  errUnit : ErrUnit
  errHalf : Half
  skipped : Bool
  chk : Chk
  validated : Bool
  frameOk : Bool
  htValid : Bool
  tempNeg : Bool
  /-- STATUS bit 14: the pair FRAME[0], FRAME[1] failed. -/
  necFail0 : Bool
  /-- STATUS bit 15: the pair FRAME[2], FRAME[3] failed. -/
  necFail1 : Bool
  cmdErr : CmdErr
deriving DecidableEq, Repr

/-- CLS_RESULT (rule R37). -/
structure ClsResult where
  cls : PulseClass
  in1 : Bool
  in2 : Bool
  in3 : Bool
deriving DecidableEq, Repr

/-- PAY_PAD (rule R39). -/
structure Pad where
  pad : Bool
  level : Level
deriving DecidableEq, Repr

/-- Group (a) of rule R20: the configuration registers and the pattern arrays. -/
structure Configuration where
  base : Word
  tol : Word
  ctrl : Ctrl
  numDataBits : Word
  expectedSyms : Word
  rawSkipHead : Word
  startLen : Word
  stopLen : Word
  startPat : List PatEntry
  stopPat : List PatEntry
deriving DecidableEq, Repr

/-- Group (b) of rule R20: the input registers and the raw buffer. -/
structure Input where
  symCount : Word
  clsDur : Word
  raw : List RawSymbol
deriving DecidableEq, Repr

/-- Group (c) of rule R20: the working registers and the unit buffer. -/
structure Working where
  unitCount : Word
  payStart : Word
  payCount : Word
  payPad : Pad
  units : List UnitPulse
deriving DecidableEq, Repr

/-- Group (d) of rule R20: the output registers. TEMP_X10 is an i32 held as its bit pattern. -/
structure Output where
  bitCount : Word
  frame : List Byte
  humX10 : Word
  tempX10 : Word
deriving DecidableEq, Repr

/-- Group (e) of rule R20: the status registers. ERR_INDEX and BIT_ERR_FIRST are i32 held as their
bit patterns. -/
structure Reporting where
  status : Status
  errIndex : Word
  bitErrCount : Word
  bitErrFirst : Word
  skipCount : Word
  clsResult : ClsResult
deriving DecidableEq, Repr

/-- What the host can do to the core at one step: a transaction of the host port (20_memory.md rule
R60), or the reset input (70_reset_and_hazards.md rule R260). -/
inductive HostEvent where
  /-- `WR addr, data`. -/
  | write (addr : Addr) (data : Word)
  /-- `RD addr`. -/
  | read (addr : Addr)
  /-- The reset input is applied and released. -/
  | reset
deriving DecidableEq, Repr

/-- The state of one core. `cfg`, `inp`, `work`, `out` and `rep` are the state of rule R20; `params`
are the capacities, constant; `pending`, `rdata` and `resets` are the model's own: the host's
transactions still to come, the answer of the port, and the counter of the free values. -/
structure State where
  /-- RAW_CAP and PAT_CAP: parameters, not state of the spec; no step changes them (rule R5). -/
  params : Params
  /-- Configuration registers. -/
  cfg : Configuration
  /-- Input registers. -/
  inp : Input
  /-- Working registers. -/
  work : Working
  /-- Output registers. -/
  out : Output
  /-- Status registers. -/
  rep : Reporting
  /-- The host's events that the core has not accepted yet, oldest first. -/
  pending : List HostEvent
  /-- What the port delivered for the event it accepted last: a value after a read, none otherwise. -/
  rdata : Option Word
  /-- How many times the reset input has been applied: the argument of the free values. -/
  resets : Nat
deriving DecidableEq, Repr

/-- The reasons a step can fault: none. The spec names no event that stops the core: "there is no
halt, lock-up, stuck or error state" (60_exceptions.md rule R249), so this type has no constructor. -/
inductive Fault where
deriving DecidableEq, Repr

/-- The reasons a step can be refused by the MODEL. The spec's own refusals (CMD_ERR = 1 or 2) are
next states, not these. -/
inductive Refusal where
  /-- Raised by an arm of `exec` for a command that has no meaning yet; no arm raises it now. Safe. -/
  | notModelled (mnemonic : String)
deriving DecidableEq, Repr

/-! ## Reset -/

/-- The two level bits of a pattern LEVEL word (10_state.md rule R30). -/
def PatLevel.ofBits (hi lo : Bool) : PatLevel :=
  match hi, lo with
  | false, false => .low
  | false, true => .high
  | true, false => .either
  | true, true => .reserved

/-- A level bit (00_scope.md rule R12). -/
def Level.ofBit (b : Bool) : Level := if b then .high else .low

/-- STATUS after reset: every field 0 (rule R46). -/
def Status.zero : Status :=
  { done := false, errKind := .noError, errUnit := .noUnit, errHalf := .first, skipped := false,
    chk := .notRun, validated := false, frameOk := false, htValid := false, tempNeg := false,
    necFail0 := false, necFail1 := false, cmdErr := .accepted }

/-- CLS_RESULT = 0. -/
def ClsResult.zero : ClsResult := { cls := .invalid, in1 := false, in2 := false, in3 := false }

/-- PAY_PAD = 0. -/
def Pad.zero : Pad := { pad := false, level := .low }

/-- The core after reset (rule R46, rule R260) with capacities `p`, where the word at address `a` of an
array whose reset contents the spec leaves unspecified holds the field bits of `fill a`. -/
def State.powerOn (p : Params) (fill : Nat → Word) : State :=
  let patEntry (at_ i : Nat) : PatEntry :=
    { level := PatLevel.ofBits (fill (at_ + 2 * i))[1] (fill (at_ + 2 * i))[0], mult := fill (at_ + 2 * i + 1) }
  { params := p
    cfg :=
      { base := 0#32, tol := 0#32, ctrl := 0#4, numDataBits := 0#32, expectedSyms := 0#32,
        rawSkipHead := 0#32, startLen := 0#32, stopLen := 0#32,
        startPat := (List.range p.patCap).map (patEntry 0x20),
        stopPat := (List.range p.patCap).map (patEntry 0x40) }
    inp :=
      { symCount := 0#32, clsDur := 0#32,
        raw := (List.range p.rawCap).map fun i =>
          { dur0 := fill (0x1000 + 4 * i), dur1 := fill (0x1001 + 4 * i),
            level0 := Level.ofBit (fill (0x1002 + 4 * i))[0],
            level1 := Level.ofBit (fill (0x1002 + 4 * i))[1] } }
    work :=
      { unitCount := 0#32, payStart := 0#32, payCount := 0#32, payPad := Pad.zero,
        units := (List.range p.unitCap).map fun j =>
          { dur := fill (0x2000 + 2 * j), level := Level.ofBit (fill (0x2001 + 2 * j))[0] } }
    out := { bitCount := 0#32, frame := List.replicate p.frameCap 0#8, humX10 := 0#32, tempX10 := 0#32 }
    rep :=
      { status := Status.zero, errIndex := -1#32, bitErrCount := 0#32, bitErrFirst := -1#32,
        skipCount := 0#32, clsResult := ClsResult.zero }
    pending := []
    rdata := none
    resets := 0 }

/-- The machine right after reset: the default capacities, every register at the value of rule R46,
the words that the rule leaves unspecified at 0 (DESIGN CHOICE, assumption log entry 3), and no host
transaction waiting. -/
def State.reset : State := State.powerOn Params.standard fun _ => 0#32

end Sys2Proof.Machine
end

