-- ==== Sys2Proof/Machine/Ops.lean ====
section
/-! DEFINITION. The named operations over the registers and arrays: element reads, the clear
procedures of 10_state.md listing L45, recording a DecodeError (the one "exception entry" of this
hardware, 60_exceptions.md rule R244), refusing a command, the writes of the units, and the reset
input. -/

namespace Sys2Proof.Machine

/-! ## Reading array elements (00_scope.md rule R11) -/

/-- `RAW[i]`. An index outside the buffer, which no command forms, reads as zeros. -/
def State.rawAt (s : State) (i : Nat) : RawSymbol :=
  s.inp.raw.getD i { dur0 := 0#32, dur1 := 0#32, level0 := .low, level1 := .low }

/-- `UNIT[j]`. -/
def State.unitAt (s : State) (j : Nat) : UnitPulse :=
  s.work.units.getD j { level := .low, dur := 0#32 }

/-- `START_PAT[i]`. -/
def State.startPatAt (s : State) (i : Nat) : PatEntry :=
  s.cfg.startPat.getD i { level := .low, mult := 0#32 }

/-- `STOP_PAT[i]`. -/
def State.stopPatAt (s : State) (i : Nat) : PatEntry :=
  s.cfg.stopPat.getD i { level := .low, mult := 0#32 }

/-- `FRAME[i]`. -/
def State.frameAt (s : State) (i : Nat) : Byte := s.out.frame.getD i 0#8

/-! ## The outcome of a write to CMD -/

/-- `STATUS.CMD_ERR <- 0`: the command is accepted (45_control_commands.md rule R220). -/
def State.accept (s : State) : State := { s with rep.status.cmdErr := .accepted }

/-- `refuse(code)`: `STATUS.CMD_ERR <- code` and nothing else (rules R220, R221). -/
def State.refuse (code : CmdErr) (s : State) : State := { s with rep.status.cmdErr := code }

/-- `STATUS.DONE <- 1`, the last effect of every stage command (rule R224). -/
def State.finish (s : State) : State := { s with rep.status.done := true }

/-! ## The clear procedures (10_state.md listing L45) -/

def State.clearErr (s : State) : State :=
  { s with
    rep.status.errKind := .noError
    rep.status.errUnit := .noUnit
    rep.status.errHalf := .first
    rep.errIndex := -1#32
    rep.status.skipped := false }

def State.clearValidation (s : State) : State :=
  { s with
    rep.status.chk := .notRun
    rep.status.validated := false
    rep.status.frameOk := false
    rep.status.htValid := false
    rep.status.tempNeg := false
    rep.status.necFail0 := false
    rep.status.necFail1 := false
    out.humX10 := 0#32
    out.tempX10 := 0#32 }

def State.clearFrame (s : State) : State :=
  let s := s.clearValidation
  { s with
    out.bitCount := 0#32
    out.frame := s.out.frame.map fun _ => 0#8
    rep.bitErrCount := 0#32
    rep.bitErrFirst := -1#32 }

def State.clearPayload (s : State) : State :=
  let s := s.clearFrame
  { s with work.payStart := 0#32, work.payCount := 0#32, work.payPad := Pad.zero }

/-- The contents of UNIT are left as they are. -/
def State.clearUnits (s : State) : State :=
  let s := s.clearPayload
  { s with work.unitCount := 0#32, rep.skipCount := 0#32 }

def State.clearPipeline (s : State) : State :=
  let s := s.clearUnits.clearErr
  { s with rep.status.done := false }

/-! ## Errors -/

/-- `raise DecodeError(kind, unit, index, half)`: what it records; ending the stage is the caller's
(60_exceptions.md rule R244). -/
def State.raise (e : DecodeError) (s : State) : State :=
  { s with
    rep.status.errKind := e.kind
    rep.status.errUnit := e.unit
    rep.status.errHalf := e.half
    rep.errIndex := e.index }

/-- `LogBitError(k)` (43_bit_assembler.md rule R163). -/
def State.logBitError (k : Nat) (s : State) : State :=
  { s with
    rep.bitErrFirst := if s.rep.bitErrCount = 0#32 then BitVec.ofNat 32 k else s.rep.bitErrFirst
    rep.bitErrCount := s.rep.bitErrCount + 1#32 }

/-! ## The writes of the units -/

/-- `UNIT[UNIT_COUNT] <- u; UNIT_COUNT <- UNIT_COUNT + 1` (41_pulse_normalizer.md listing L121). -/
def State.emitUnit (u : UnitPulse) (s : State) : State :=
  { s with
    work.units := s.work.units.set s.work.unitCount.toNat u
    work.unitCount := s.work.unitCount + 1#32 }

/-- `SKIP_COUNT <- SKIP_COUNT + 1` (listing L121, rule R123). -/
def State.countSkip (s : State) : State := { s with rep.skipCount := s.rep.skipCount + 1#32 }

/-- The order in which bits fill a byte (43_bit_assembler.md rule R162). -/
inductive BitOrder where
  | msb
  | lsb
deriving DecidableEq, Repr

/-- The bit position inside its byte of frame bit `k` (rule R162). -/
def bitPosition (order : BitOrder) (k : Nat) : Nat :=
  match order with
  | .msb => 7 - k % 8
  | .lsb => k % 8

/-- `byte` with its bit `pos` set to `b`. -/
def setByteBit (byte : Byte) (pos : Nat) (b : Bool) : Byte :=
  if b then byte ||| (1#8 <<< pos) else byte &&& ~~~(1#8 <<< pos)

/-- `PutBit(k, b, order)` (rule R162). -/
def State.putBit (order : BitOrder) (k : Nat) (b : Bool) (s : State) : State :=
  { s with
    out.frame := s.out.frame.set (k / 8) (setByteBit (s.frameAt (k / 8)) (bitPosition order k) b) }

/-- What one data symbol or pulse pair comes to: its bit, and whether a per-bit error is logged
(rules R163 to R171). -/
structure BitOutcome where
  bit : Bool
  logged : Bool
deriving DecidableEq, Repr

/-- The loop body shared by the assemblers, over the outcomes of bits `k`, `k + 1`, ... in order:
log the error if there is one, then `PutBit` (listings L164, L167, L171). -/
def State.placeBits (order : BitOrder) : List BitOutcome → Nat → State → State
  | [], _, s => s
  | o :: os, k, s =>
    State.placeBits order os (k + 1) ((if o.logged then s.logBitError k else s).putBit order k o.bit)

/-! ## Commands as a whole -/

/-- A stage command (45_control_commands.md listing L220 and table T224): refuse on a bad
configuration, else accept, clear, run the stage, set DONE. -/
def stageCommand (bad : Bool) (clear stage : State → State) (s : State) : State :=
  if bad then s.refuse .badConfig else (stage (clear s.accept)).finish

/-! ## The reset input -/

/-- Reset is applied and released (70_reset_and_hazards.md rule R260): every register takes its value
of 10_state.md rule R46, the unspecified array words take free values, the host's later events and
the capacities are not the core's to change. -/
def State.applyReset (s : State) : State :=
  { State.powerOn s.params (Config.unspecified s.resets) with
    pending := s.pending, rdata := none, resets := s.resets + 1 }

end Sys2Proof.Machine
end

