-- ==== Sys2Proof/Machine/Operands.lean ====
section
/-! DEFINITION. The operands of the commands: every one is a register named by the command's rule
(30_encoding.md rule R81), read as an unsigned integer (00_scope.md rule R10), an element of an
array, or a field of CTRL; and the conditions of 45_control_commands.md table T221 on them. -/

namespace Sys2Proof.Machine

/-! ## Registers as integers -/

def State.symCount (s : State) : Nat := s.inp.symCount.toNat
def State.unitCount (s : State) : Nat := s.work.unitCount.toNat
def State.payStart (s : State) : Nat := s.work.payStart.toNat
def State.payCount (s : State) : Nat := s.work.payCount.toNat
def State.startLen (s : State) : Nat := s.cfg.startLen.toNat
def State.stopLen (s : State) : Nat := s.cfg.stopLen.toNat
def State.numDataBits (s : State) : Nat := s.cfg.numDataBits.toNat
def State.rawSkipHead (s : State) : Nat := s.cfg.rawSkipHead.toNat
def State.expectedSyms (s : State) : Nat := s.cfg.expectedSyms.toNat
def State.bitCount (s : State) : Nat := s.out.bitCount.toNat

/-! ## Fields of CTRL (10_state.md rule R25) -/

def State.policy (s : State) : Policy := ctrlPolicy s.cfg.ctrl
def State.diff (s : State) : Bool := ctrlDiff s.cfg.ctrl
def State.lenient (s : State) : Bool := ctrlLenient s.cfg.ctrl

/-! ## Halves of raw symbols and payload pulses -/

/-- The duration of half `h` (00_scope.md rule R15). -/
def RawSymbol.dur (y : RawSymbol) (h : Half) : Word :=
  match h with
  | .first => y.dur0
  | .second => y.dur1

/-- The level of half `h`. -/
def RawSymbol.level (y : RawSymbol) (h : Half) : Level :=
  match h with
  | .first => y.level0
  | .second => y.level1

/-- The halves of symbols 0 to `n - 1` in walk order: symbol order, half 0 before half 1
(41_pulse_normalizer.md rule R120). -/
def halvesOf (n : Nat) : List (Nat × Half) :=
  (List.range n).flatMap fun i => [(i, .first), (i, .second)]

/-- `1 - l`. -/
def Level.complement : Level → Level
  | .low => .high
  | .high => .low

/-- `PayLevel(j)` (43_bit_assembler.md rule R165). -/
def State.payLevel (s : State) (j : Nat) : Level :=
  if s.work.payPad.pad = true ∧ j + 1 = s.payCount then s.work.payPad.level
  else (s.unitAt (s.payStart + j)).level

/-! ## Bad configuration (table T221) -/

/-- `SYM_COUNT > RAW_CAP`. -/
def State.badCapture (s : State) : Bool := decide (s.params.rawCap < s.symCount)

/-- `BadPatterns()` (rule R221). -/
def State.badPatterns (s : State) : Bool :=
  decide (s.params.patCap < s.startLen) || decide (s.params.patCap < s.stopLen) ||
    (List.range s.startLen).any (fun i => (s.startPatAt i).level == .reserved) ||
    (List.range s.stopLen).any (fun k => (s.stopPatAt k).level == .reserved)

/-- The row of ASSEMBLE. -/
def State.badAssemble (s : State) : Bool :=
  s.policy == .reserved || ((s.policy == .dhtMarkSpace || s.policy == .pulseDistance) && s.badCapture)

/-- The row of VALIDATE. -/
def State.badValidate (s : State) : Bool := s.policy == .reserved

/-- The row of DECODE. -/
def State.badDecode (s : State) : Bool :=
  s.policy == .reserved || s.badCapture || (s.policy == .manchester && s.badPatterns)

end Sys2Proof.Machine
end

