-- ==== Sys2Proof/Machine/Flags.lean ====
section
/-! DEFINITION. The tests whose outcomes the commands record, and the numeric codes and words under
which the host reads the flags: the window tests of U1, LevelOK, the checks of U5, and the words of
STATUS, CLS_RESULT and PAY_PAD. -/

namespace Sys2Proof.Machine

/-! ## U1 (40_pulse_classifier.md) -/

/-- The `m` of `InWin` as a number. -/
def multipleFactor : Multiple → Nat
  | .single => 1
  | .double => 2
  | .triple => 3

/-- How many times the tolerance the window of a multiple has: scaled with the width, the triple by
TRIPLE_TOL_MULT (00_scope.md rule R8). -/
def toleranceFactor : Multiple → Nat
  | .single => 1
  | .double => 2
  | .triple => Config.tripleTolMult

/-- `InWin(d, base, tol, m)`: `m*base - m*tol <= d <= m*base + m*tol` over the integers, nothing wraps
(rule R100). -/
def inWin (d base tol : Word) (m : Multiple) : Bool :=
  let centre : Int := multipleFactor m * base.toNat
  let slack : Int := toleranceFactor m * tol.toNat
  decide (centre - slack ≤ d.toNat) && decide ((d.toNat : Int) ≤ centre + slack)

/-- `Classify(d, base, tol)`: Single before Double (rule R101). -/
def classify (d base tol : Word) : PulseClass :=
  if inWin d base tol .single then .single
  else if inWin d base tol .double then .double
  else .invalid

/-- The value CLASSIFY gives CLS_RESULT (rule R104). -/
def classifyFlags (d base tol : Word) : ClsResult :=
  { cls := classify d base tol
    in1 := inWin d base tol .single
    in2 := inWin d base tol .double
    in3 := inWin d base tol .triple }

/-! ## U3 (42_preamble_matcher.md) -/

/-- `LevelOK(p, l)` (rule R141); MATCH refuses before the reserved code could reach it. -/
def levelOK (p : PatLevel) (l : Level) : Bool :=
  match p, l with
  | .either, _ => true
  | .low, .low => true
  | .high, .high => true
  | _, _ => false

/-! ## U5 (44_checksum_validator.md) -/

/-- The additive check of rule R201: `b4 == (b0 + b1 + b2 + b3) & 0xFF`, the sum over the integers. -/
def checksumOk (b0 b1 b2 b3 b4 : Byte) : Bool :=
  decide (b4.toNat = (b0.toNat + b1.toNat + b2.toNat + b3.toNat) % 256)

/-- `(b0 << 8) | b1` (rule R202). -/
def humidity (b0 b1 : Byte) : Word := (b0.setWidth 32 <<< 8) ||| b1.setWidth 32

/-- `((b2 & 0x7F) << 8) | b3` (rule R202). -/
def temperatureMagnitude (b2 b3 : Byte) : Word :=
  ((b2 &&& 0x7F#8).setWidth 32 <<< 8) ||| b3.setWidth 32

/-- `b2 >> 7`, the sign bit of the temperature (rule R202). -/
def temperatureNegative (b2 : Byte) : Bool := b2[7]

/-- The sign-magnitude temperature as an i32 (rules R201, R202). -/
def temperature (b2 b3 : Byte) : Word :=
  if temperatureNegative b2 then -temperatureMagnitude b2 b3 else temperatureMagnitude b2 b3

/-- A pair of bytes fails the NEC-style check: `(x | y) != 0xFF` (rule R203). -/
def necPairFails (x y : Byte) : Bool := (x ||| y) != 0xFF#8

/-! ## Codes (30_encoding.md rule R87) -/

def Level.code : Level → BitVec 1
  | .low => 0#1
  | .high => 1#1

def PatLevel.code : PatLevel → BitVec 2
  | .low => 0#2
  | .high => 1#2
  | .either => 2#2
  | .reserved => 3#2

def Half.code : Half → BitVec 1
  | .first => 0#1
  | .second => 1#1

def PulseClass.code : PulseClass → BitVec 2
  | .invalid => 0#2
  | .single => 1#2
  | .double => 2#2

def ErrKind.code : ErrKind → BitVec 2
  | .noError => 0#2
  | .invalidPulseWidth => 1#2
  | .incompleteFrame => 2#2
  | .checksumMismatch => 3#2

def ErrUnit.code : ErrUnit → BitVec 3
  | .noUnit => 0#3
  | .classifier => 1#3
  | .normalizer => 2#3
  | .matcher => 3#3
  | .assembler => 4#3
  | .validator => 5#3
  | .frameGate => 6#3

def Chk.code : Chk → BitVec 2
  | .notRun => 0#2
  | .pass => 1#2
  | .fail => 2#2
  | .notApplicable => 3#2

def CmdErr.code : CmdErr → BitVec 2
  | .accepted => 0#2
  | .illegalWord => 1#2
  | .badConfig => 2#2

/-! ## Words the host reads (10_state.md rules R33, R37, R39) -/

/-- STATUS, table T33 from bit 31 down to bit 0. -/
def Status.word (t : Status) : Word :=
  0#14 ++ t.cmdErr.code ++ BitVec.ofBool t.necFail1 ++ BitVec.ofBool t.necFail0 ++
    BitVec.ofBool t.tempNeg ++ BitVec.ofBool t.htValid ++ BitVec.ofBool t.frameOk ++
    BitVec.ofBool t.validated ++ t.chk.code ++ BitVec.ofBool t.skipped ++ t.errHalf.code ++
    t.errUnit.code ++ t.errKind.code ++ BitVec.ofBool t.done

/-- CLS_RESULT: bits 1:0 CLASS, bit 2 IN1, bit 3 IN2, bit 4 IN3. -/
def ClsResult.word (r : ClsResult) : Word :=
  0#27 ++ BitVec.ofBool r.in3 ++ BitVec.ofBool r.in2 ++ BitVec.ofBool r.in1 ++ r.cls.code

/-- PAY_PAD: bit 0 PAD, bit 1 PAD_LEVEL. -/
def Pad.word (p : Pad) : Word := 0#30 ++ p.level.code ++ BitVec.ofBool p.pad

end Sys2Proof.Machine
end

