-- ==== Sys2Proof/Machine/Classifier.lean ====
section
/-! DEFINITION. U1 pulse_classifier: the CLASSIFY command (40_pulse_classifier.md rule R104). -/

namespace Sys2Proof.Machine

/-- CLASSIFY: CLS_RESULT from CLS_DUR, BASE and TOL; never refused, raises nothing (rule R104). -/
def execClassify (s : State) : Host.Outcome State Fault Refusal :=
  .next { s.accept with rep.clsResult := classifyFlags s.inp.clsDur s.cfg.base s.cfg.tol }

end Sys2Proof.Machine
end

