-- ==== Sys2Proof/Machine/Assembler.lean ====
section
/-! DEFINITION. U4 bit_assembler: the four behaviours of the ASSEMBLE command and the assemble stage
of DECODE (43_bit_assembler.md). -/

namespace Sys2Proof.Machine

/-- IncompleteFrame of U4 (rules R161, R166). -/
def assemblerError (index : Word) : DecodeError :=
  { kind := .incompleteFrame, unit := .assembler, index := index, half := .first }

/-- A bit that could not be classified: left 0 and logged (rule R163). -/
def bitError : BitOutcome := { bit := false, logged := true }

/-- A duration in a closed window of constants (rule R164). -/
def within (lo hi : Nat) (d : Word) : Bool := decide (lo ≤ d.toNat) && decide (d.toNat ≤ hi)

/-! ## The outcome of one data symbol or pulse pair -/

/-- One DhtMarkSpace data symbol (listing L164); `level0` is not examined. -/
def dhtOutcome (y : RawSymbol) : BitOutcome :=
  let ok := within Config.dhtSepLo Config.dhtSepHi y.dur0 && y.level1 == .high
  if ok && within Config.dhtOneLo Config.dhtOneHi y.dur1 then { bit := true, logged := false }
  else if ok && within Config.dhtZeroLo Config.dhtZeroHi y.dur1 then { bit := false, logged := false }
  else bitError

/-- One PulseDistance data symbol: base window before triple window (listing L171, rule R170). -/
def pulseDistanceOutcome (base tol : Word) (y : RawSymbol) : BitOutcome :=
  let ok := inWin y.dur0 base tol .single && y.level1 == .high
  if ok && inWin y.dur1 base tol .single then { bit := false, logged := false }
  else if ok && inWin y.dur1 base tol .triple then { bit := true, logged := false }
  else bitError

/-- One pulse pair under normal Manchester (rule R167, table T169). -/
def manchesterOutcome (a b : Level) : BitOutcome :=
  { bit := a == .low && b == .high, logged := a == b }

/-- One pulse pair under differential Manchester: nothing is logged (rule R168, table T169). -/
def differentialOutcome (a b : Level) : BitOutcome :=
  { bit := !(a == .low && b == .high), logged := false }

/-! ## The stages -/

/-- Place the outcomes of bits 0, 1, ... and set BIT_COUNT. -/
def State.assembled (order : BitOrder) (outcomes : List BitOutcome) (s : State) : State :=
  { State.placeBits order outcomes 0 s with out.bitCount := BitVec.ofNat 32 outcomes.length }

/-- The assembler of a raw-pair policy over `n` data symbols after the RAW_SKIP_HEAD first ones (rule
R161): IncompleteFrame at SYM_COUNT when the capture is too short, before any bit. -/
def assembleRaw (order : BitOrder) (n : Nat) (outcome : RawSymbol → BitOutcome) (s : State) : State :=
  if s.symCount < s.rawSkipHead + n then s.raise (assemblerError s.inp.symCount)
  else s.assembled order ((List.range n).map fun k => outcome (s.rawAt (s.rawSkipHead + k)))

/-- `AssembleDht()` (listing L164). -/
def assembleDhtStage (s : State) : State := assembleRaw .msb Config.dhtBits dhtOutcome s

/-- `AssemblePulseDistance()` (listing L171). -/
def assemblePdStage (s : State) : State :=
  assembleRaw .lsb s.numDataBits (pulseDistanceOutcome s.cfg.base s.cfg.tol) s

/-- `AssembleManchester(diff)` with the outcome of a pair as argument (listing L167): the odd-count
test, then the NUM_DATA_BITS test, then the bits (rule R166). -/
def assemblePairs (outcome : Level → Level → BitOutcome) (s : State) : State :=
  let n := s.payCount / 2
  if s.payCount % 2 = 1 then s.raise (assemblerError (s.work.payStart + s.work.payCount - 1#32))
  else if s.numDataBits ≠ 0 ∧ n ≠ s.numDataBits then s.raise (assemblerError (-1#32))
  else s.assembled .msb ((List.range n).map fun k => outcome (s.payLevel (2 * k)) (s.payLevel (2 * k + 1)))

/-- `AssembleManchester(0)`. -/
def assembleManStage (s : State) : State := assemblePairs manchesterOutcome s

/-- `AssembleManchester(1)`. -/
def assembleDmanStage (s : State) : State := assemblePairs differentialOutcome s

/-- `Assemble()`, the dispatch of listing L160. The reserved policy is refused before it is reached. -/
def assembleStage (s : State) : State :=
  match s.policy with
  | .dhtMarkSpace => assembleDhtStage s
  | .manchester => if s.diff then assembleDmanStage s else assembleManStage s
  | .pulseDistance => assemblePdStage s
  | .reserved => s

/-! ## The commands: listing L160 with the behaviour that CTRL selects -/

/-- ASSEMBLE.DHT (rule R164). -/
def execAssembleDht (s : State) : Host.Outcome State Fault Refusal :=
  .next (stageCommand s.badAssemble (fun s => s.clearErr.clearFrame) assembleDhtStage s)

/-- ASSEMBLE.MAN (rule R167). -/
def execAssembleMan (s : State) : Host.Outcome State Fault Refusal :=
  .next (stageCommand s.badAssemble (fun s => s.clearErr.clearFrame) assembleManStage s)

/-- ASSEMBLE.DMAN (rule R168). -/
def execAssembleDman (s : State) : Host.Outcome State Fault Refusal :=
  .next (stageCommand s.badAssemble (fun s => s.clearErr.clearFrame) assembleDmanStage s)

/-- ASSEMBLE.PD (rule R171). -/
def execAssemblePd (s : State) : Host.Outcome State Fault Refusal :=
  .next (stageCommand s.badAssemble (fun s => s.clearErr.clearFrame) assemblePdStage s)

end Sys2Proof.Machine
end

