-- ==== Sys2Proof/Machine/Matcher.lean ====
section
/-! DEFINITION. U3 preamble_matcher: the MATCH command and the match stage of DECODE
(42_preamble_matcher.md listing L142). -/

namespace Sys2Proof.Machine

/-- IncompleteFrame of U3 at unit pulse `j` (rule R142). -/
def mismatchAt (j : Nat) : DecodeError :=
  { kind := .incompleteFrame, unit := .matcher, index := BitVec.ofNat 32 j, half := .first }

/-- The first start entry that does not accept its pulse (rule R142). -/
def startMismatch (s : State) : Option Nat :=
  (List.range s.startLen).find? fun i => !levelOK (s.startPatAt i).level (s.unitAt i).level

/-- The first pulse of the tail that its stop entry does not accept, as a unit index (rule R142). -/
def stopMismatch (s : State) : Option Nat :=
  ((List.range s.stopLen).map fun k => s.unitCount - s.stopLen + k).find? fun j =>
    !levelOK (s.stopPatAt (j - (s.unitCount - s.stopLen))).level (s.unitAt j).level

/-- The payload window of a matched sequence, with the pad pulse of rule R143 when there is no stop
pattern and the count is odd. -/
def State.writePayload (s : State) : State :=
  let count := s.unitCount - s.startLen - s.stopLen
  if s.stopLen = 0 ∧ count % 2 = 1 then
    { s with
      work.payStart := s.cfg.startLen
      work.payCount := BitVec.ofNat 32 (count + 1)
      work.payPad := { pad := true, level := (s.unitAt (s.unitCount - 1)).level.complement } }
  else
    { s with work.payStart := s.cfg.startLen, work.payCount := BitVec.ofNat 32 count }

/-- `Match()`. -/
def matchStage (s : State) : State :=
  if s.unitCount < s.startLen + s.stopLen then s.raise (mismatchAt s.unitCount)
  else
    match startMismatch s with
    | some i => s.raise (mismatchAt i)
    | none =>
      match stopMismatch s with
      | some j => s.raise (mismatchAt j)
      | none => s.writePayload

/-- MATCH (rule R142). -/
def execMatch (s : State) : Host.Outcome State Fault Refusal :=
  .next (stageCommand s.badPatterns (fun s => s.clearErr.clearPayload) matchStage s)

end Sys2Proof.Machine
end

