-- ==== Sys2Proof/Machine/Normalizer.lean ====
section
/-! DEFINITION. U2 pulse_normalizer: the NORMALIZE command and the normalize stage of DECODE
(41_pulse_normalizer.md listing L121). -/

namespace Sys2Proof.Machine

/-- InvalidPulseWidth at half `h` of raw symbol `i` (rule R121). -/
def invalidWidthAt (i : Nat) (h : Half) : DecodeError :=
  { kind := .invalidPulseWidth, unit := .normalizer, index := BitVec.ofNat 32 i, half := h }

/-- The walk of listing L121 over the halves still to come: a zero duration is skipped unclassified
(rule R122), a Single emits itself, a Double two halves (rule R124), an Invalid is counted and
dropped when LENIENT = 1 and else ends the stage (rule R123). -/
def normalizeHalves : List (Nat × Half) → State → State
  | [], s => s
  | (i, h) :: rest, s =>
    let d := (s.rawAt i).dur h
    let l := (s.rawAt i).level h
    if d = 0#32 then normalizeHalves rest s
    else
      match classify d s.cfg.base s.cfg.tol with
      | .single => normalizeHalves rest (s.emitUnit { level := l, dur := d })
      | .double =>
        normalizeHalves rest
          ((s.emitUnit { level := l, dur := d / 2#32 }).emitUnit { level := l, dur := d / 2#32 })
      | .invalid =>
        if s.lenient then normalizeHalves rest s.countSkip else s.raise (invalidWidthAt i h)

/-- `Normalize()`. -/
def normalizeStage (s : State) : State := normalizeHalves (halvesOf s.symCount) s

/-- NORMALIZE (rule R121). -/
def execNormalize (s : State) : Host.Outcome State Fault Refusal :=
  .next (stageCommand s.badCapture (fun s => s.clearErr.clearUnits) normalizeStage s)

end Sys2Proof.Machine
end

