-- ==== Sys2Proof/Machine/Validator.lean ====
section
/-! DEFINITION. U5 checksum_validator: the three behaviours of the VALIDATE command and the validate
stage of DECODE (44_checksum_validator.md). -/

namespace Sys2Proof.Machine

/-- An error of U5: it concerns the whole frame and has no position (rule R201). -/
def validatorError (kind : ErrKind) : DecodeError :=
  { kind := kind, unit := .validator, index := -1#32, half := .first }

/-- Humidity, temperature and the lock, written whatever the outcome of the check (rule R201). -/
def State.writeReadings (s : State) : State :=
  { s with
    out.humX10 := humidity (s.frameAt 0) (s.frameAt 1)
    out.tempX10 := temperature (s.frameAt 2) (s.frameAt 3)
    rep.status.tempNeg := temperatureNegative (s.frameAt 2)
    rep.status.htValid := true
    rep.status.validated := true }

/-- `ValidateDht()` (listing L201). -/
def validateDhtStage (s : State) : State :=
  if s.bitCount ≠ Config.dhtBits then
    ({ s with rep.status.chk := .notApplicable } : State).raise (validatorError .incompleteFrame)
  else if checksumOk (s.frameAt 0) (s.frameAt 1) (s.frameAt 2) (s.frameAt 3) (s.frameAt 4) then
    { s.writeReadings with rep.status.chk := .pass, rep.status.frameOk := true }
  else
    ({ s.writeReadings with rep.status.chk := .fail } : State).raise (validatorError .checksumMismatch)

/-- The pair tests of rule R203, made on frames of exactly 32 bits. -/
def State.writeNecChecks (s : State) : State :=
  let f0 := necPairFails (s.frameAt 0) (s.frameAt 1)
  let f1 := necPairFails (s.frameAt 2) (s.frameAt 3)
  if s.bitCount = Config.necBits then
    { s with
      rep.status.necFail0 := f0
      rep.status.necFail1 := f1
      rep.status.chk := if f0 || f1 then .fail else .pass }
  else { s with rep.status.chk := .notApplicable }

/-- `ValidateNec()` (listing L203): the check is advisory, the frame is delivered in every case. -/
def validateNecStage (s : State) : State :=
  { s.writeNecChecks with rep.status.frameOk := true, rep.status.validated := true }

/-- `ValidateNone()` (rule R204). -/
def validateNoneStage (s : State) : State :=
  { s with rep.status.chk := .notApplicable, rep.status.frameOk := true, rep.status.validated := true }

/-- `Validate()`, the dispatch of listing L200. The reserved policy is refused before it is reached. -/
def validateStage (s : State) : State :=
  match s.policy with
  | .dhtMarkSpace => validateDhtStage s
  | .manchester => validateNoneStage s
  | .pulseDistance => validateNecStage s
  | .reserved => s

/-! ## The commands: listing L200 with the behaviour that CTRL selects -/

/-- VALIDATE.DHT (rule R201). -/
def execValidateDht (s : State) : Host.Outcome State Fault Refusal :=
  .next (stageCommand s.badValidate (fun s => s.clearErr.clearValidation) validateDhtStage s)

/-- VALIDATE.NONE (rule R204). -/
def execValidateNone (s : State) : Host.Outcome State Fault Refusal :=
  .next (stageCommand s.badValidate (fun s => s.clearErr.clearValidation) validateNoneStage s)

/-- VALIDATE.NEC (rule R203). -/
def execValidateNec (s : State) : Host.Outcome State Fault Refusal :=
  .next (stageCommand s.badValidate (fun s => s.clearErr.clearValidation) validateNecStage s)

end Sys2Proof.Machine
end

