-- ==== Sys2Proof/Machine/Control.lean ====
section
/-! DEFINITION. The commands of no single unit: NOP, CLEAR and DECODE (45_control_commands.md rules
R222 to R227). -/

namespace Sys2Proof.Machine

/-- NOP (rule R222). -/
def execNop (s : State) : Host.Outcome State Fault Refusal := .next s.accept

/-- CLEAR (rule R223). -/
def execClear (s : State) : Host.Outcome State Fault Refusal :=
  .next { s.accept.clearPipeline with rep.clsResult := ClsResult.zero }

/-- IncompleteFrame of the frame gate (rule R225). -/
def gateError : DecodeError :=
  { kind := .incompleteFrame, unit := .frameGate, index := -1#32, half := .first }

/-- The frame gate skips the capture (rule R225). -/
def State.gateSkips (s : State) : Bool :=
  decide (s.expectedSyms ≠ 0) && decide (s.symCount ≠ s.expectedSyms)

/-- `if STATUS.ERR_KIND == 0: stage` of listing L226. -/
def unlessError (stage : State → State) (s : State) : State :=
  if s.rep.status.errKind = .noError then stage s else s

/-- The stages the policy needs, in the fixed order, stopping at the first error (listing L226). -/
def decodeStages (s : State) : State :=
  let fronted := if s.policy = .manchester then unlessError matchStage (normalizeStage s) else s
  unlessError validateStage (unlessError assembleStage fronted)

/-- The gate and the stages (listing L226 between ClearPipeline and DONE). -/
def decodeStage (s : State) : State :=
  if s.gateSkips then ({ s with rep.status.skipped := true } : State).raise gateError
  else decodeStages s

/-- DECODE (rule R226). -/
def execDecode (s : State) : Host.Outcome State Fault Refusal :=
  .next (stageCommand s.badDecode State.clearPipeline decodeStage s)

end Sys2Proof.Machine
end

