-- ==== Sys2Proof/Machine/Dispatch.lean ====
section
/-! DEFINITION. The meaning of each command: one arm per row of spec/opcode_table.json. -/

namespace Sys2Proof.Machine

def exec (i : Instr) (s : State) : Host.Outcome State Fault Refusal :=
  match i with
  | .nop => Sys2Proof.Machine.execNop s
  | .clear => Sys2Proof.Machine.execClear s
  | .classify => Sys2Proof.Machine.execClassify s
  | .normalize => Sys2Proof.Machine.execNormalize s
  | .matchPreamble => Sys2Proof.Machine.execMatch s
  | .assembleDht => Sys2Proof.Machine.execAssembleDht s
  | .assembleMan => Sys2Proof.Machine.execAssembleMan s
  | .assembleDman => Sys2Proof.Machine.execAssembleDman s
  | .assemblePd => Sys2Proof.Machine.execAssemblePd s
  | .validateDht => Sys2Proof.Machine.execValidateDht s
  | .validateNone => Sys2Proof.Machine.execValidateNone s
  | .validateNec => Sys2Proof.Machine.execValidateNec s
  | .decode => Sys2Proof.Machine.execDecode s

end Sys2Proof.Machine
end

