-- ==== Sys2Proof/Machine/Port.lean ====
section
/-! DEFINITION. The host port (20_memory.md): the address map of table T63, HostRead, the register
half of HostWrite, and the 47-bit transaction value of 30_encoding.md rule R80. -/

namespace Sys2Proof.Machine

/-- What the map places at a word address (table T63). A reserved word of RAW, an index at or above a
capacity and every address the table does not list are `unmapped` (rule R64). -/
inductive Place where
  | cmd | status | errIndex | bitErrCount | bitErrFirst | skipCount | clsDur | clsResult
  | base | tol | ctrl | numDataBits | expectedSyms | rawSkipHead | startLen | stopLen
  | symCount | unitCount | payStart | payCount | payPad | bitCount | humX10 | tempX10
  | startLevel (i : Nat) | startMult (i : Nat) | stopLevel (i : Nat) | stopMult (i : Nat)
  | frame (i : Nat)
  | rawDur0 (i : Nat) | rawDur1 (i : Nat) | rawLevels (i : Nat)
  | unitDur (j : Nat) | unitLevel (j : Nat)
  | unmapped
deriving DecidableEq, Repr

/-- The scalar registers, 0x000 to 0x017 (table T63). -/
def scalarPlace (a : Nat) : Place :=
  match a with
  | 0x00 => .cmd
  | 0x01 => .status
  | 0x02 => .errIndex
  | 0x03 => .bitErrCount
  | 0x04 => .bitErrFirst
  | 0x05 => .skipCount
  | 0x06 => .clsDur
  | 0x07 => .clsResult
  | 0x08 => .base
  | 0x09 => .tol
  | 0x0A => .ctrl
  | 0x0B => .numDataBits
  | 0x0C => .expectedSyms
  | 0x0D => .rawSkipHead
  | 0x0E => .startLen
  | 0x0F => .stopLen
  | 0x10 => .symCount
  | 0x11 => .unitCount
  | 0x12 => .payStart
  | 0x13 => .payCount
  | 0x14 => .payPad
  | 0x15 => .bitCount
  | 0x16 => .humX10
  | 0x17 => .tempX10
  | _ => .unmapped

/-- The four words of a RAW entry; word +3 is reserved (10_state.md rule R32). -/
def rawPlace (offset : Nat) : Place :=
  match offset % 4 with
  | 0 => .rawDur0 (offset / 4)
  | 1 => .rawDur1 (offset / 4)
  | 2 => .rawLevels (offset / 4)
  | _ => .unmapped

/-- The address map for capacities `p` (rule R63, table T63). -/
def locate (p : Params) (addr : Addr) : Place :=
  let a := addr.toNat
  if a < 0x020 then scalarPlace a
  else if a < 0x020 + 2 * p.patCap then
    if a % 2 = 0 then .startLevel ((a - 0x020) / 2) else .startMult ((a - 0x020) / 2)
  else if 0x040 ≤ a ∧ a < 0x040 + 2 * p.patCap then
    if a % 2 = 0 then .stopLevel ((a - 0x040) / 2) else .stopMult ((a - 0x040) / 2)
  else if 0x100 ≤ a ∧ a < 0x100 + p.frameCap then .frame (a - 0x100)
  else if 0x1000 ≤ a ∧ a < 0x1000 + 4 * p.rawCap then rawPlace (a - 0x1000)
  else if 0x2000 ≤ a ∧ a < 0x2000 + 2 * p.unitCap then
    if a % 2 = 0 then .unitDur ((a - 0x2000) / 2) else .unitLevel ((a - 0x2000) / 2)
  else .unmapped

/-- The word at a place, its reserved bits 0 (rule R61). -/
def State.readPlace (s : State) : Place → Word
  | .cmd => 0#32
  | .status => s.rep.status.word
  | .errIndex => s.rep.errIndex
  | .bitErrCount => s.rep.bitErrCount
  | .bitErrFirst => s.rep.bitErrFirst
  | .skipCount => s.rep.skipCount
  | .clsDur => s.inp.clsDur
  | .clsResult => s.rep.clsResult.word
  | .base => s.cfg.base
  | .tol => s.cfg.tol
  | .ctrl => s.cfg.ctrl.setWidth 32
  | .numDataBits => s.cfg.numDataBits
  | .expectedSyms => s.cfg.expectedSyms
  | .rawSkipHead => s.cfg.rawSkipHead
  | .startLen => s.cfg.startLen
  | .stopLen => s.cfg.stopLen
  | .symCount => s.inp.symCount
  | .unitCount => s.work.unitCount
  | .payStart => s.work.payStart
  | .payCount => s.work.payCount
  | .payPad => s.work.payPad.word
  | .bitCount => s.out.bitCount
  | .humX10 => s.out.humX10
  | .tempX10 => s.out.tempX10
  | .startLevel i => (s.startPatAt i).level.code.setWidth 32
  | .startMult i => (s.startPatAt i).mult
  | .stopLevel i => (s.stopPatAt i).level.code.setWidth 32
  | .stopMult i => (s.stopPatAt i).mult
  | .frame i => (s.frameAt i).setWidth 32
  | .rawDur0 i => (s.rawAt i).dur0
  | .rawDur1 i => (s.rawAt i).dur1
  | .rawLevels i => 0#30 ++ (s.rawAt i).level1.code ++ (s.rawAt i).level0.code
  | .unitDur j => (s.unitAt j).dur
  | .unitLevel j => (s.unitAt j).level.code.setWidth 32
  | .unmapped => 0#32

/-- `HostRead(addr)` (rule R61). -/
def hostRead (s : State) (addr : Addr) : Word := s.readPlace (locate s.params addr)

/-- A register write at a place, reduced to the register's fields (rule R62). CMD is not written here:
a write to it runs a command. Read-only registers and unmapped words ignore the write; BIT_COUNT and
FRAME ignore it while the frame is locked (10_state.md rule R40). -/
def State.writePlace (s : State) (v : Word) : Place → State
  | .clsDur => { s with inp.clsDur := v }
  | .base => { s with cfg.base := v }
  | .tol => { s with cfg.tol := v }
  | .ctrl => { s with cfg.ctrl := v.extractLsb' 0 4 }
  | .numDataBits => { s with cfg.numDataBits := v }
  | .expectedSyms => { s with cfg.expectedSyms := v }
  | .rawSkipHead => { s with cfg.rawSkipHead := v }
  | .startLen => { s with cfg.startLen := v }
  | .stopLen => { s with cfg.stopLen := v }
  | .symCount => { s with inp.symCount := v }
  | .startLevel i =>
    { s with cfg.startPat := s.cfg.startPat.set i { s.startPatAt i with level := PatLevel.ofBits v[1] v[0] } }
  | .startMult i => { s with cfg.startPat := s.cfg.startPat.set i { s.startPatAt i with mult := v } }
  | .stopLevel i =>
    { s with cfg.stopPat := s.cfg.stopPat.set i { s.stopPatAt i with level := PatLevel.ofBits v[1] v[0] } }
  | .stopMult i => { s with cfg.stopPat := s.cfg.stopPat.set i { s.stopPatAt i with mult := v } }
  | .rawDur0 i => { s with inp.raw := s.inp.raw.set i { s.rawAt i with dur0 := v } }
  | .rawDur1 i => { s with inp.raw := s.inp.raw.set i { s.rawAt i with dur1 := v } }
  | .rawLevels i =>
    { s with
      inp.raw := s.inp.raw.set i
        { s.rawAt i with level0 := Level.ofBit v[0], level1 := Level.ofBit v[1] } }
  | .bitCount => if s.rep.status.validated then s else { s with out.bitCount := v }
  | .frame i =>
    if s.rep.status.validated then s
    else { s with out.frame := s.out.frame.set i (v.extractLsb' 0 8) }
  | .cmd | .status | .errIndex | .bitErrCount | .bitErrFirst | .skipCount | .clsResult
  | .unitCount | .payStart | .payCount | .payPad | .humX10 | .tempX10
  | .unitDur _ | .unitLevel _ | .unmapped => s

/-- `HostWrite(addr, v)` for an address other than CMD (rule R62). -/
def hostWrite (s : State) (addr : Addr) (v : Word) : State := s.writePlace v (locate s.params addr)

/-- The address of CMD (10_state.md rule R42). -/
def cmdAddr : Addr := 0x0000#14

/-! ## The transaction value (30_encoding.md rule R80) -/

/-- `we ++ addr ++ wdata`; the `wdata` of a read is ignored by the port and written as 0. The reset
input is no transaction and has no value. -/
def encodeTransaction : HostEvent → Option (BitVec 47)
  | .write addr data => some (1#1 ++ addr ++ data)
  | .read addr => some (0#1 ++ addr ++ 0#32)
  | .reset => none

/-- The transaction of a 47-bit value: `we` = bit 46, `addr` = bits 45:32, `wdata` = bits 31:0. -/
def decodeTransaction (t : BitVec 47) : HostEvent :=
  if t.extractLsb' 46 1 = 1#1 then .write (t.extractLsb' 32 14) (t.extractLsb' 0 32)
  else .read (t.extractLsb' 32 14)

end Sys2Proof.Machine
end

