-- ==== Sys2Proof/Machine/Transaction.lean ====
section
/-! DEFINITION. Completing one event of the host: a transaction of the port, a write to CMD with the
whole command it starts (20_memory.md rules R60 and R66), or the reset input. -/

namespace Sys2Proof.Machine

/-- A write of `w` to CMD (45_control_commands.md listing L220): the legality of the word, then the
row that CTRL selects; the tests of table T221 are the meanings' own. -/
def runCommand (w : Word) (s : State) : Host.Outcome State Fault Refusal :=
  match decodeWord s.cfg.ctrl w with
  | .instr i => exec i s
  | .illegalWord => .next (s.refuse .illegalWord)
  | .reservedPolicy => .next (s.refuse .badConfig)

/-- The core completes the event `e` (rules R61, R62; 70_reset_and_hazards.md rule R260). -/
def perform (e : HostEvent) (s : State) : Host.Outcome State Fault Refusal :=
  match e with
  | .write addr data => if addr = cmdAddr then runCommand data s else .next (hostWrite s addr data)
  | .read addr => .next { s with rdata := some (hostRead s addr) }
  | .reset => .next s.applyReset

end Sys2Proof.Machine
end

