-- ==== Sys2Proof/Machine/Step.lean ====
section
/-! DEFINITION. One step: the core accepts the host's oldest pending event and completes it
(20_memory.md rules R60 and R66). -/

namespace Sys2Proof.Machine

/-- One step. With nothing pending the core is idle and holds all state (60_exceptions.md rule R251).
Otherwise the oldest event leaves the queue, the answer of the event before it is gone, and the
event is performed. DESIGN CHOICE, assumption log entries 5 and 6. -/
def step (s : State) : Host.Outcome State Fault Refusal :=
  match s.pending with
  | [] => .next s
  | e :: rest => perform e { s with pending := rest, rdata := none }

/-- `s` with a write of the command word `w` to CMD as the host's next transaction: commands are not
fetched from a memory, the next step runs what the host writes to CMD next (10_state.md rule R21). -/
def State.withFetchWord (s : State) (nbits w : Nat) : State :=
  { s with pending := .write cmdAddr (BitVec.ofNat 32 (w % 2 ^ nbits)) :: s.pending }

end Sys2Proof.Machine
end

