-- ==== Sys2Proof/WellFormed.lean ====
section
/-! DEFINITION. Well-formedness. A command has no operands, so the one thing that can be wrong with a
row of the opcode table is that CTRL does not select it (30_encoding.md rule R84); and the capacity
parameters must be legal (00_scope.md rule R5). -/

namespace Sys2Proof

/-- The row of `i` is the one that applies when CTRL holds `c`: the `fields` of the row, CTRL.POLICY
and CTRL.DIFF, have the values the table asks for (rule R84). A row without such fields always applies. -/
def Instr.wellFormed (c : Ctrl) : Instr → Bool
  | .assembleDht => c.extractLsb' 0 2 == 0#2
  | .assembleMan => c.extractLsb' 0 2 == 1#2 && c.extractLsb' 2 1 == 0#1
  | .assembleDman => c.extractLsb' 0 2 == 1#2 && c.extractLsb' 2 1 == 1#1
  | .assemblePd => c.extractLsb' 0 2 == 2#2
  | .validateDht => c.extractLsb' 0 2 == 0#2
  | .validateNone => c.extractLsb' 0 2 == 1#2
  | .validateNec => c.extractLsb' 0 2 == 2#2
  | .nop | .clear | .classify | .normalize | .matchPreamble | .decode => true

/-- Legal capacities: RAW_CAP a multiple of 4 from 44 to 1024, PAT_CAP from 1 to 16 (rule R5). -/
def Params.legal (p : Params) : Bool :=
  p.rawCap % 4 == 0 && 44 ≤ p.rawCap && p.rawCap ≤ 1024 && 1 ≤ p.patCap && p.patCap ≤ 16

end Sys2Proof
end

