-- ==== Sys2Proof/Safety.lean ====
section
/-! DEFINITION. The terms in which claims about the core are made: the shape of the arrays, the
invariants of 10_state.md rule R47, the parts of the state a command may not touch, what one half of
a raw symbol contributes to the unit sequence, and reading one bit of the frame. -/

namespace Sys2Proof.Machine

/-! ## Invariants -/

/-- Every array has the length its capacity says, and the capacities are legal (00_scope.md rule R5,
10_state.md rules R30, R32, R38, R40). -/
abbrev State.shaped (s : State) : Prop :=
  s.params.legal = true ∧
  s.cfg.startPat.length = s.params.patCap ∧ s.cfg.stopPat.length = s.params.patCap ∧
  s.inp.raw.length = s.params.rawCap ∧ s.work.units.length = s.params.unitCap ∧
  s.out.frame.length = s.params.frameCap

/-- Rule R47 (1) to (3): the unit count, the payload window and the pad. -/
abbrev State.windowInv (s : State) : Prop :=
  s.unitCount ≤ s.params.unitCap ∧
  s.payStart + s.payCount ≤ s.unitCount + (if s.work.payPad.pad then 1 else 0) ∧
  (s.work.payPad.pad = true → s.payCount % 2 = 0 ∧ 2 ≤ s.payCount) ∧
  (s.work.payPad.pad = false → s.work.payPad.level = .low)

/-- Rules R35, R36 and R47 (4): the bit error log and the skip count. -/
abbrev State.logInv (s : State) : Prop :=
  (s.rep.bitErrCount = 0#32 ↔ s.rep.bitErrFirst = -1#32) ∧
  s.rep.bitErrCount.toNat ≤ 2 * s.params.rawCap ∧
  s.rep.skipCount.toNat ≤ 2 * s.params.rawCap

/-- Rules R47 (5), R34, 93_implementation_defined.md entry U12 and 60_exceptions.md table T241: the error
fields, and which unit raises which kind. -/
abbrev State.errorInv (s : State) : Prop :=
  (s.rep.status.errKind = .noError ↔ s.rep.status.errUnit = .noUnit) ∧
  (s.rep.status.errKind = .noError → s.rep.errIndex = -1#32 ∧ s.rep.status.errHalf = .first) ∧
  s.rep.status.errUnit ≠ .classifier ∧
  (s.rep.status.errKind = .invalidPulseWidth ↔ s.rep.status.errUnit = .normalizer) ∧
  (s.rep.status.errKind = .checksumMismatch → s.rep.status.errUnit = .validator) ∧
  (s.rep.status.errUnit = .frameGate ↔ s.rep.status.skipped = true) ∧
  (s.rep.status.errHalf = .second → s.rep.status.errKind = .invalidPulseWidth)

/-- Rules R47 (6), (7) and R41: the validation fields and the readings. -/
abbrev State.resultInv (s : State) : Prop :=
  (s.rep.status.frameOk = true → s.rep.status.validated = true) ∧
  (s.rep.status.htValid = false →
    s.out.humX10 = 0#32 ∧ s.out.tempX10 = 0#32 ∧ s.rep.status.tempNeg = false) ∧
  s.out.humX10.toNat ≤ 65535 ∧ -32767 ≤ s.out.tempX10.toInt ∧ s.out.tempX10.toInt ≤ 32767

/-- The invariants of every reachable state (rule R47, with the array shapes). -/
abbrev State.inv (s : State) : Prop :=
  s.shaped ∧ s.windowInv ∧ s.logInv ∧ s.errorInv ∧ s.resultInv

/-! ## The codes of 30_encoding.md rule R87, as the host reads them -/

def levelNumber : Level → Nat
  | .low => 0
  | .high => 1

def patLevelNumber : PatLevel → Nat
  | .low => 0
  | .high => 1
  | .either => 2
  | .reserved => 3

def policyNumber : Policy → Nat
  | .dhtMarkSpace => 0
  | .manchester => 1
  | .pulseDistance => 2
  | .reserved => 3

def classNumber : PulseClass → Nat
  | .invalid => 0
  | .single => 1
  | .double => 2

def errKindNumber : ErrKind → Nat
  | .noError => 0
  | .invalidPulseWidth => 1
  | .incompleteFrame => 2
  | .checksumMismatch => 3

def errUnitNumber : ErrUnit → Nat
  | .noUnit => 0
  | .classifier => 1
  | .normalizer => 2
  | .matcher => 3
  | .assembler => 4
  | .validator => 5
  | .frameGate => 6

def halfNumber : Half → Nat
  | .first => 0
  | .second => 1

def chkNumber : Chk → Nat
  | .notRun => 0
  | .pass => 1
  | .fail => 2
  | .notApplicable => 3

def cmdErrNumber : CmdErr → Nat
  | .accepted => 0
  | .illegalWord => 1
  | .badConfig => 2

/-! ## What a command may not touch -/

/-- `t` has the capacities, configuration, inputs and host events of `s`: what no command changes. -/
abbrev State.sameInputs (s t : State) : Prop :=
  t.params = s.params ∧ t.cfg = s.cfg ∧ t.inp = s.inp ∧
  t.pending = s.pending ∧ t.rdata = s.rdata ∧ t.resets = s.resets

/-- The output registers when nothing has been assembled: all 0. -/
def Output.blank (o : Output) : Output :=
  { bitCount := 0#32, frame := List.replicate o.frame.length 0#8, humX10 := 0#32, tempX10 := 0#32 }

/-- STATUS = 0x00000001: a stage command finished without error, nothing validated. -/
def Status.doneOnly : Status := { Status.zero with done := true }

/-- STATUS after a stage command that raised `e`, nothing validated. -/
def Status.doneWith (e : DecodeError) : Status :=
  { Status.zero with done := true, errKind := e.kind, errUnit := e.unit, errHalf := e.half }

/-- No DecodeError is recorded. -/
abbrev State.noError (s : State) : Prop := s.rep.status.errKind = .noError

/-! ## When a command is refused (45_control_commands.md table T221) -/

/-- `BadPatterns()` in the words of rule R221. -/
def State.patternsBad (s : State) : Prop :=
  s.params.patCap < s.startLen ∨ s.params.patCap < s.stopLen ∨
    (∃ i, i < s.startLen ∧ (s.startPatAt i).level = .reserved) ∨
    (∃ k, k < s.stopLen ∧ (s.stopPatAt k).level = .reserved)

/-- `BadConfig(op)`, row by row of table T221. -/
def State.misconfigured (s : State) : Instr → Prop
  | .nop | .clear | .classify => False
  | .normalize => s.params.rawCap < s.symCount
  | .matchPreamble => s.patternsBad
  | .assembleDht | .assembleMan | .assembleDman | .assemblePd =>
    s.policy = .reserved ∨
      ((s.policy = .dhtMarkSpace ∨ s.policy = .pulseDistance) ∧ s.params.rawCap < s.symCount)
  | .validateDht | .validateNone | .validateNec => s.policy = .reserved
  | .decode =>
    s.policy = .reserved ∨ s.params.rawCap < s.symCount ∨ (s.policy = .manchester ∧ s.patternsBad)

/-- The frame gate of DECODE lets the capture through (45_control_commands.md rule R225). -/
def State.gateOpen (s : State) : Prop := s.expectedSyms = 0 ∨ s.symCount = s.expectedSyms

/-! ## U1 and U2 in the words of their rules -/

/-- The window of multiple `m` around `base` with tolerance `tol`, without negative numbers
(40_pulse_classifier.md rule R100). -/
abbrev window (m : Nat) (d base tol : Word) : Prop :=
  m * base.toNat ≤ d.toNat + m * tol.toNat ∧ d.toNat ≤ m * base.toNat + m * tol.toNat

/-- Single before Double (rule R101). -/
def widthClass (d base tol : Word) : PulseClass :=
  if window 1 d base tol then .single else if window 2 d base tol then .double else .invalid

/-- The halves of raw symbols 0 to `n - 1` in walk order: `duration0` of a symbol before its
`duration1`, symbol after symbol (41_pulse_normalizer.md rule R120). -/
def capturedHalves (n : Nat) : List (Nat × Half) :=
  (List.range (2 * n)).map fun h => (h / 2, if h % 2 = 0 then .first else .second)

/-- The duration of half `p.2` of raw symbol `p.1` (00_scope.md rule R15). -/
def State.halfDur (s : State) (p : Nat × Half) : Word :=
  match p.2 with
  | .first => (s.rawAt p.1).dur0
  | .second => (s.rawAt p.1).dur1

/-- The level of half `p.2` of raw symbol `p.1` (00_scope.md rule R15). -/
def State.halfLevel (s : State) (p : Nat × Half) : Level :=
  match p.2 with
  | .first => (s.rawAt p.1).level0
  | .second => (s.rawAt p.1).level1

/-- The class of half `p.2` of raw symbol `p.1`. -/
def State.halfClass (s : State) (p : Nat × Half) : PulseClass :=
  widthClass (s.halfDur p) s.cfg.base s.cfg.tol

/-- The half ends a strict walk: its duration is not zero, it is Invalid, and LENIENT = 0
(41_pulse_normalizer.md rules R122, R123). -/
def State.halfFails (s : State) (p : Nat × Half) : Bool :=
  s.halfDur p != 0#32 && s.halfClass p == .invalid && !s.lenient

/-- The half is counted in SKIP_COUNT: not zero, Invalid, and LENIENT = 1 (rule R123). -/
def State.halfSkips (s : State) (p : Nat × Half) : Bool :=
  s.halfDur p != 0#32 && s.halfClass p == .invalid && s.lenient

/-- The unit pulses the half emits (rules R122, R124). -/
def State.halfEmits (s : State) (p : Nat × Half) : List UnitPulse :=
  let d := s.halfDur p
  let l := s.halfLevel p
  if d = 0#32 then []
  else
    match s.halfClass p with
    | .single => [{ level := l, dur := d }]
    | .double => [{ level := l, dur := d / 2#32 }, { level := l, dur := d / 2#32 }]
    | .invalid => []

/-- The part of the half's duration that its unit pulses carry on: all of a Single, a Double less the
remainder of its halving, nothing otherwise (rule R124). -/
def State.halfKept (s : State) (p : Nat × Half) : Nat :=
  let d := (s.halfDur p).toNat
  if d = 0 then 0
  else
    match s.halfClass p with
    | .single => d
    | .double => d - d % 2
    | .invalid => 0

/-- The halves a walk gets through: all before the first that fails. -/
def State.walkedHalves (s : State) : List (Nat × Half) :=
  (capturedHalves s.symCount).takeWhile fun p => !s.halfFails p

/-! ## U3 in the words of its rules -/

/-- A pattern entry accepts a pulse of level `l` (42_preamble_matcher.md rule R141). -/
abbrev PatLevel.accepts (p : PatLevel) (l : Level) : Prop :=
  p = .either ∨ (p = .low ∧ l = .low) ∨ (p = .high ∧ l = .high)

/-- Start entry `i` accepts its pulse (rule R140). -/
abbrev State.startOk (s : State) (i : Nat) : Prop :=
  (s.startPatAt i).level.accepts (s.unitAt i).level

/-- The unit pulse that stop entry `k` is matched against (rule R140). -/
abbrev State.stopPulse (s : State) (k : Nat) : Nat := s.unitCount - s.stopLen + k

/-- Stop entry `k` accepts its pulse (rule R140). -/
abbrev State.stopOk (s : State) (k : Nat) : Prop :=
  (s.stopPatAt k).level.accepts (s.unitAt (s.stopPulse k)).level

/-! ## U4 in the words of its rules -/

/-- A DhtMarkSpace symbol that stands for 1 (43_bit_assembler.md rule R164). -/
abbrev RawSymbol.dhtOne (y : RawSymbol) : Prop :=
  (44 ≤ y.dur0.toNat ∧ y.dur0.toNat ≤ 56) ∧ y.level1 = .high ∧ 65 ≤ y.dur1.toNat ∧ y.dur1.toNat ≤ 75

/-- A DhtMarkSpace symbol that stands for 0 (rule R164). -/
abbrev RawSymbol.dhtZero (y : RawSymbol) : Prop :=
  (44 ≤ y.dur0.toNat ∧ y.dur0.toNat ≤ 56) ∧ y.level1 = .high ∧ 20 ≤ y.dur1.toNat ∧ y.dur1.toNat ≤ 34

/-- A PulseDistance symbol that stands for 0: base width first (rules R170, R171). -/
abbrev RawSymbol.distanceZero (base tol : Word) (y : RawSymbol) : Prop :=
  window 1 y.dur0 base tol ∧ y.level1 = .high ∧ window 1 y.dur1 base tol

/-- A PulseDistance symbol that stands for 1 (rules R170, R171). -/
abbrev RawSymbol.distanceOne (base tol : Word) (y : RawSymbol) : Prop :=
  window 1 y.dur0 base tol ∧ y.level1 = .high ∧ ¬ window 1 y.dur1 base tol ∧ window 3 y.dur1 base tol

/-- Bit number `k` of the frame, counted MSB-first or LSB-first in byte `k / 8` (rule R162). -/
def State.frameBit (s : State) (order : BitOrder) (k : Nat) : Bool :=
  match order with
  | .msb => (s.frameAt (k / 8)).getLsbD (7 - k % 8)
  | .lsb => (s.frameAt (k / 8)).getLsbD (k % 8)

/-- `t` is what a successful ASSEMBLE of `n` bits leaves from `s`: bit `k` of the frame is `bit k`,
every frame bit from `n` on is 0, the bit error log counts the `noisy` bits and names the first, no
DecodeError, nothing validated, and everything upstream as it was (rules R160 to R163). -/
def State.assembles (s t : State) (order : BitOrder) (n : Nat) (bit noisy : Nat → Bool) : Prop :=
  t.bitCount = n ∧ t.out.frame.length = s.out.frame.length ∧
  (∀ k, k < n → t.frameBit order k = bit k) ∧ (∀ k, n ≤ k → t.frameBit order k = false) ∧
  t.rep.bitErrCount.toNat = (List.range n).countP noisy ∧
  t.rep.bitErrFirst = (((List.range n).find? noisy).elim (-1#32) fun k => BitVec.ofNat 32 k) ∧
  t.rep.status = Status.doneOnly ∧ t.rep.errIndex = -1#32 ∧
  t.out.humX10 = 0#32 ∧ t.out.tempX10 = 0#32 ∧
  t.rep.skipCount = s.rep.skipCount ∧ t.rep.clsResult = s.rep.clsResult ∧ t.work = s.work ∧
  s.sameInputs t

/-- `s` after an ASSEMBLE that raised IncompleteFrame of U4 with `index`: FRAME all 0, BIT_COUNT 0
(rule R160). -/
def State.assemblyFailed (s : State) (index : Word) : State :=
  { s with
    out := s.out.blank
    rep :=
      { status := Status.doneWith { kind := .incompleteFrame, unit := .assembler, index := index, half := .first }
        errIndex := index, bitErrCount := 0#32, bitErrFirst := -1#32
        skipCount := s.rep.skipCount, clsResult := s.rep.clsResult } }

end Sys2Proof.Machine
end

