-- ==== Sys2Proof/Certificates/Slice0/Obligations.lean ====
section
/-! DEFINITION. The statements about the core that the provers settle, in the order: encoding and the
step, the invariants, reset, the host port, the commands unit by unit, and the laws across commands. -/

open Sys2Proof Sys2Proof.Machine

/-! ## Encoding and the step -/

/-- Table T82 and rule R84 on words written out bit by bit: each of the eight command words, and each
row of ASSEMBLE and VALIDATE under its CTRL (LENIENT, DIFF, POLICY); rule R83 on three that are none. -/
def Obligations.WrittenCommandWordsDecode : Prop :=
  decodeWord 0b0000#4 0b00000000000000000000000000000000#32 = .instr .nop ∧
  decodeWord 0b1111#4 0b00000000000000000000000000000001#32 = .instr .clear ∧
  decodeWord 0b0000#4 0b00000000000000000000000000000010#32 = .instr .classify ∧
  decodeWord 0b0001#4 0b00000000000000000000000000000011#32 = .instr .normalize ∧
  decodeWord 0b1001#4 0b00000000000000000000000000000100#32 = .instr .matchPreamble ∧
  decodeWord 0b0100#4 0b00000000000000000000000000000101#32 = .instr .assembleDht ∧
  decodeWord 0b0001#4 0b00000000000000000000000000000101#32 = .instr .assembleMan ∧
  decodeWord 0b0101#4 0b00000000000000000000000000000101#32 = .instr .assembleDman ∧
  decodeWord 0b0110#4 0b00000000000000000000000000000101#32 = .instr .assemblePd ∧
  decodeWord 0b1000#4 0b00000000000000000000000000000110#32 = .instr .validateDht ∧
  decodeWord 0b0101#4 0b00000000000000000000000000000110#32 = .instr .validateNone ∧
  decodeWord 0b0110#4 0b00000000000000000000000000000110#32 = .instr .validateNec ∧
  decodeWord 0b0010#4 0b00000000000000000000000000000111#32 = .instr .decode ∧
  decodeWord 0b0011#4 0b00000000000000000000000000000110#32 = .reservedPolicy ∧
  decodeWord 0b0000#4 0b00000000000000000000000000001000#32 = .illegalWord ∧
  decodeWord 0b0000#4 0b00000000000000000000000000010111#32 = .illegalWord

/-- Rules R80 to R84: a 47-bit transaction value is a write to CMD that runs row `i` while CTRL holds
`ctrl` exactly when it is the value of writing the encoding of `i` to CMD and CTRL selects row `i`. -/
def Obligations.TransactionsRunExactlyTheEncodedCommand : Prop :=
  ∀ (ctrl : Ctrl) (t : BitVec 47) (i : Instr),
    (∃ w, decodeTransaction t = .write cmdAddr w ∧ decodeWord ctrl w = .instr i) ↔
      (encodeTransaction (.write cmdAddr (encode i)) = some t ∧ i.wellFormed ctrl = true)

/-- Rule R80: `we ++ addr ++ wdata` loses nothing of a write, and of a read only the ignored `wdata`;
rule R42: a write to address 0 is the write to CMD. -/
def Obligations.TransactionValuesRoundTrip : Prop :=
  (∀ addr data, ∃ t, encodeTransaction (.write addr data) = some t ∧
    t.extractLsb' 46 1 = 1#1 ∧ t.extractLsb' 32 14 = addr ∧ t.extractLsb' 0 32 = data ∧
    decodeTransaction t = .write addr data) ∧
  (∀ addr, ∃ t, encodeTransaction (.read addr) = some t ∧
    t.extractLsb' 46 1 = 0#1 ∧ t.extractLsb' 32 14 = addr ∧ t.extractLsb' 0 32 = 0#32 ∧
    decodeTransaction t = .read addr) ∧
  (∀ t : BitVec 47, t.extractLsb' 46 1 = 1#1 → encodeTransaction (decodeTransaction t) = some t) ∧
  (∀ t : BitVec 47, t.extractLsb' 46 1 = 0#1 →
    decodeTransaction t = .read (t.extractLsb' 32 14)) ∧
  (∀ data : Word, decodeTransaction (1#1 ++ 0x000#14 ++ data) = .write cmdAddr data)

/-- Rules R220 and R68: a write to CMD runs the command its word decodes to under CTRL as it stands;
beside it the step takes the transaction off the queue and withdraws the last answer of the port.
With nothing pending a step changes nothing (rule R251). The queue `pending` and the answer `rdata`
are the model's own (assumption log entries 5 and 6). -/
def Obligations.StepRunsTheDecodedCommand : Prop :=
  (∀ (s : State) (w : Word) (rest : List HostEvent) (i : Instr),
    s.pending = .write cmdAddr w :: rest → decodeWord s.cfg.ctrl w = .instr i →
    step s = exec i { s with pending := rest, rdata := none }) ∧
  (∀ s : State, s.pending = [] → step s = .next s)

/-- Rule R83: an illegal word changes CMD_ERR only; the word of ASSEMBLE or VALIDATE under the reserved
policy is refused as bad configuration; every other word is the encoding of a command that CTRL
selects, and runs it. The queue and the answer of the port are the model's (log entries 5 and 6). -/
def Obligations.EveryCommandWordRunsOrIsRefused : Prop :=
  ∀ (s : State) (w : Word) (rest : List HostEvent), s.pending = .write cmdAddr w :: rest →
    let now : State := { s with pending := rest, rdata := none }
    let illegal : Prop := w.extractLsb' 4 28 ≠ 0#28 ∨ 8 ≤ (w.extractLsb' 0 4).toNat
    let unselected : Prop := s.cfg.ctrl.extractLsb' 0 2 = 3#2 ∧ (w = 5#32 ∨ w = 6#32)
    (illegal → step s = .next { now with rep.status.cmdErr := .illegalWord }) ∧
    (unselected → step s = .next { now with rep.status.cmdErr := .badConfig }) ∧
    (¬ illegal → ¬ unselected →
      ∃ i : Instr, w = encode i ∧ i.wellFormed s.cfg.ctrl = true ∧ step s = exec i now)

/-- Rule R221: a command is refused with CMD_ERR = 2 and no other effect exactly in the cases of table
T221, and is otherwise accepted, with CMD_ERR = 0. Under the reserved policy no row of ASSEMBLE and
VALIDATE applies, and their command words are refused in the same way. -/
def Obligations.BadConfigurationIsRefusedAndNothingElse : Prop :=
  (∀ (i : Instr) (s : State),
    (s.misconfigured i → exec i s = .next { s with rep.status.cmdErr := .badConfig }) ∧
    (¬ s.misconfigured i → ∃ t, exec i s = .next t ∧ t.rep.status.cmdErr = .accepted)) ∧
  (∀ (w : Word) (s : State), w = 0x00000005#32 ∨ w = 0x00000006#32 → s.policy = .reserved →
    runCommand w s = .next { s with rep.status.cmdErr := .badConfig })

/-- Rule R249: no state makes the core stop. -/
def Obligations.EveryStepAnswersANextState : Prop :=
  ∀ s : State, ∃ t, step s = .next t

/-- Rule R5: the legal capacities, the two that follow from them, and the defaults. -/
def Obligations.LegalCapacitiesAreThoseOfTheScope : Prop :=
  (∀ p : Params,
    (p.legal = true ↔
      p.rawCap % 4 = 0 ∧ 44 ≤ p.rawCap ∧ p.rawCap ≤ 1024 ∧ 1 ≤ p.patCap ∧ p.patCap ≤ 16) ∧
    p.unitCap = 4 * p.rawCap ∧ p.frameCap = p.rawCap / 4) ∧
  State.reset.params = { rawCap := 64, patCap := 8 }

/-! ## Invariants -/

/-- Rule R47 with rules R34 to R36, R41 and table T241: every step keeps the invariants, whatever the
host does. -/
def Obligations.EveryStepKeepsTheRegisterInvariants : Prop :=
  ∀ s t : State, s.inv → step s = .next t → t.inv

/-- The invariants hold after reset, for all legal capacities and whatever the unspecified arrays
hold, and so at `State.reset`, whose capacities and array contents the model chose (log entries 3
and 7). -/
def Obligations.ResetMeetsTheRegisterInvariants : Prop :=
  (∀ (p : Params) (fill : Nat → Word), p.legal = true → (State.powerOn p fill).inv) ∧ State.reset.inv

/-- Rule R47 (8): what ASSEMBLE writes to BIT_COUNT fits the frame. -/
def Obligations.AssembledBitCountFitsTheFrame : Prop :=
  ∀ (i : Instr) (s t : State),
    i = .assembleDht ∨ i = .assembleMan ∨ i = .assembleDman ∨ i = .assemblePd →
    s.inv → i.wellFormed s.cfg.ctrl = true → ¬ s.misconfigured i → exec i s = .next t →
    t.bitCount ≤ 8 * s.params.frameCap

/-! ## Reset -/

/-- Rule R46, read through the host port: every scalar register reads 0 but ERR_INDEX and
BIT_ERR_FIRST, which read -1; FRAME reads 0; the four unspecified arrays read the field bits of
whatever `fill` their words hold, with reserved bits 0. -/
def Obligations.ResetRegistersReadTheirStatedValues : Prop :=
  ∀ (p : Params) (fill : Nat → Word) (a : Addr), p.legal = true →
    let v := hostRead (State.powerOn p fill) a
    let n := a.toNat
    (n < 0x020 → v = if n = 2 ∨ n = 4 then -1#32 else 0#32) ∧
    (0x100 ≤ n → n < 0x100 + p.frameCap → v = 0#32) ∧
    ((0x020 ≤ n ∧ n < 0x020 + 2 * p.patCap) ∨ (0x040 ≤ n ∧ n < 0x040 + 2 * p.patCap) →
      v = if n % 2 = 0 then fill n &&& 3#32 else fill n) ∧
    (0x1000 ≤ n → n < 0x1000 + 4 * p.rawCap →
      v = if n % 4 = 3 then 0#32 else if n % 4 = 2 then fill n &&& 3#32 else fill n) ∧
    (0x2000 ≤ n → n < 0x2000 + 2 * p.unitCap →
      v = if n % 2 = 1 then fill n &&& 1#32 else fill n)

/-- Rule R260: the reset input gives every register its reset value, with some contents of the
unspecified arrays, and leaves the capacities. That the host's later transactions stay is the model's
choice (log entry 14), and so is where they stand (log entries 5 and 6). -/
def Obligations.ResetInputRestartsTheCore : Prop :=
  ∀ (s : State) (rest : List HostEvent), s.pending = .reset :: rest →
    ∃ (fill : Nat → Word) (t : State), step s = .next t ∧
      t.params = s.params ∧ t.cfg = (State.powerOn s.params fill).cfg ∧
      t.inp = (State.powerOn s.params fill).inp ∧ t.work = (State.powerOn s.params fill).work ∧
      t.out = (State.powerOn s.params fill).out ∧ t.rep = (State.powerOn s.params fill).rep ∧
      t.pending = rest ∧ t.rdata = none

/-! ## The host port -/

/-- Rule R61: a read delivers the word of the register and changes no state of the core; it is taken off
the queue, and the word stands in `rdata`, as the model has it (log entries 5 and 6). -/
def Obligations.HostReadsChangeNothing : Prop :=
  ∀ (s : State) (a : Addr) (rest : List HostEvent), s.pending = .read a :: rest →
    step s = .next { s with pending := rest, rdata := some (hostRead s a) } ∧
    hostRead s cmdAddr = 0#32

/-- Table T63 with R33 to R41 and the codes of rule R87: what a read delivers at every scalar register,
and the numbers the commands take from these registers. -/
def Obligations.HostReadsDeliverTheScalarRegisters : Prop :=
  ∀ s : State,
    let st := s.rep.status
    let status := hostRead s 0x001#14
    let ctrl := hostRead s 0x00A#14
    let result := hostRead s 0x007#14
    let pad := hostRead s 0x014#14
    hostRead s 0x000#14 = 0#32 ∧
    (status[0] = st.done ∧ (status.extractLsb' 1 2).toNat = errKindNumber st.errKind ∧
      (status.extractLsb' 3 3).toNat = errUnitNumber st.errUnit ∧
      (status.extractLsb' 6 1).toNat = halfNumber st.errHalf ∧ status[7] = st.skipped ∧
      (status.extractLsb' 8 2).toNat = chkNumber st.chk ∧ status[10] = st.validated ∧
      status[11] = st.frameOk ∧ status[12] = st.htValid ∧ status[13] = st.tempNeg ∧
      status[14] = st.necFail0 ∧ status[15] = st.necFail1 ∧
      (status.extractLsb' 16 2).toNat = cmdErrNumber st.cmdErr ∧ status.extractLsb' 18 14 = 0#14) ∧
    hostRead s 0x002#14 = s.rep.errIndex ∧ hostRead s 0x003#14 = s.rep.bitErrCount ∧
    hostRead s 0x004#14 = s.rep.bitErrFirst ∧ hostRead s 0x005#14 = s.rep.skipCount ∧
    hostRead s 0x006#14 = s.inp.clsDur ∧
    ((result.extractLsb' 0 2).toNat = classNumber s.rep.clsResult.cls ∧
      result[2] = s.rep.clsResult.in1 ∧ result[3] = s.rep.clsResult.in2 ∧
      result[4] = s.rep.clsResult.in3 ∧ result.extractLsb' 5 27 = 0#27) ∧
    hostRead s 0x008#14 = s.cfg.base ∧ hostRead s 0x009#14 = s.cfg.tol ∧
    ((ctrl.extractLsb' 0 2).toNat = policyNumber s.policy ∧ ctrl[2] = s.diff ∧ ctrl[3] = s.lenient ∧
      ctrl.extractLsb' 0 4 = s.cfg.ctrl ∧ ctrl.extractLsb' 4 28 = 0#28) ∧
    (hostRead s 0x00B#14 = s.cfg.numDataBits ∧ s.numDataBits = s.cfg.numDataBits.toNat) ∧
    (hostRead s 0x00C#14 = s.cfg.expectedSyms ∧ s.expectedSyms = s.cfg.expectedSyms.toNat) ∧
    (hostRead s 0x00D#14 = s.cfg.rawSkipHead ∧ s.rawSkipHead = s.cfg.rawSkipHead.toNat) ∧
    (hostRead s 0x00E#14 = s.cfg.startLen ∧ s.startLen = s.cfg.startLen.toNat) ∧
    (hostRead s 0x00F#14 = s.cfg.stopLen ∧ s.stopLen = s.cfg.stopLen.toNat) ∧
    (hostRead s 0x010#14 = s.inp.symCount ∧ s.symCount = s.inp.symCount.toNat) ∧
    (hostRead s 0x011#14 = s.work.unitCount ∧ s.unitCount = s.work.unitCount.toNat) ∧
    (hostRead s 0x012#14 = s.work.payStart ∧ s.payStart = s.work.payStart.toNat) ∧
    (hostRead s 0x013#14 = s.work.payCount ∧ s.payCount = s.work.payCount.toNat) ∧
    (pad[0] = s.work.payPad.pad ∧ (pad.extractLsb' 1 1).toNat = levelNumber s.work.payPad.level ∧
      pad.extractLsb' 2 30 = 0#30) ∧
    (hostRead s 0x015#14 = s.out.bitCount ∧ s.bitCount = s.out.bitCount.toNat) ∧
    hostRead s 0x016#14 = s.out.humX10 ∧ hostRead s 0x017#14 = s.out.tempX10

/-- Table T63 with R30, R32, R38, R40: what a read delivers at the words of an array entry, and that
the commands take their elements from these entries. -/
def Obligations.HostReadsDeliverTheArrayEntries : Prop :=
  ∀ s : State, s.shaped →
    let wordAt (n : Nat) : Word := hostRead s (BitVec.ofNat 14 n)
    (∀ i x, s.cfg.startPat[i]? = some x →
      s.startPatAt i = x ∧ (wordAt (0x020 + 2 * i)).toNat = patLevelNumber x.level ∧
        wordAt (0x021 + 2 * i) = x.mult) ∧
    (∀ i x, s.cfg.stopPat[i]? = some x →
      s.stopPatAt i = x ∧ (wordAt (0x040 + 2 * i)).toNat = patLevelNumber x.level ∧
        wordAt (0x041 + 2 * i) = x.mult) ∧
    (∀ i x, s.out.frame[i]? = some x → s.frameAt i = x ∧ (wordAt (0x100 + i)).toNat = x.toNat) ∧
    (∀ i x, s.inp.raw[i]? = some x →
      s.rawAt i = x ∧ wordAt (0x1000 + 4 * i) = x.dur0 ∧ wordAt (0x1001 + 4 * i) = x.dur1 ∧
        (wordAt (0x1002 + 4 * i)).toNat = levelNumber x.level0 + 2 * levelNumber x.level1 ∧
        wordAt (0x1003 + 4 * i) = 0#32) ∧
    (∀ j x, s.work.units[j]? = some x →
      s.unitAt j = x ∧ wordAt (0x2000 + 2 * j) = x.dur ∧
        (wordAt (0x2001 + 2 * j)).toNat = levelNumber x.level)

/-- Rule R64 with table T63: a read of an address the map does not list, of an index at or above a
capacity or of a reserved word returns 0; a write to one of these or to a read-only register
changes nothing. -/
def Obligations.IgnoredAccessesReadZeroAndChangeNothing : Prop :=
  ∀ (s : State) (a : Addr) (v : Word), s.params.legal = true →
    let n := a.toNat
    let listed : Prop :=
      n < 0x018 ∨ (0x020 ≤ n ∧ n < 0x020 + 2 * s.params.patCap) ∨
      (0x040 ≤ n ∧ n < 0x040 + 2 * s.params.patCap) ∨
      (0x100 ≤ n ∧ n < 0x100 + s.params.frameCap) ∨
      (0x1000 ≤ n ∧ n < 0x1000 + 4 * s.params.rawCap ∧ n % 4 ≠ 3) ∨
      (0x2000 ≤ n ∧ n < 0x2000 + 2 * s.params.unitCap)
    let readOnly : Prop :=
      (0x001 ≤ n ∧ n ≤ 0x005) ∨ n = 0x007 ∨ (0x011 ≤ n ∧ n ≤ 0x014) ∨ n = 0x016 ∨ n = 0x017 ∨
      (0x2000 ≤ n ∧ n < 0x2000 + 2 * s.params.unitCap)
    (¬ listed → hostRead s a = 0#32 ∧ hostWrite s a v = s) ∧ (readOnly → hostWrite s a v = s)

/-- Rule R62: a write to a writable register reads back reduced to the register's fields; BIT_COUNT and
FRAME are writable while the frame is not locked. -/
def Obligations.RegisterWritesReadBackTheirFields : Prop :=
  ∀ (s : State) (a : Addr) (v : Word), s.shaped →
    let back := hostRead (hostWrite s a v) a
    let n := a.toNat
    (n = 0x006 ∨ n = 0x008 ∨ n = 0x009 ∨ (0x00B ≤ n ∧ n ≤ 0x010) → back = v) ∧
    (n = 0x00A → back = v &&& 0xF#32) ∧
    ((0x020 ≤ n ∧ n < 0x020 + 2 * s.params.patCap) ∨ (0x040 ≤ n ∧ n < 0x040 + 2 * s.params.patCap) →
      back = if n % 2 = 0 then v &&& 3#32 else v) ∧
    (0x1000 ≤ n → n < 0x1000 + 4 * s.params.rawCap → n % 4 ≠ 3 →
      back = if n % 4 = 2 then v &&& 3#32 else v) ∧
    (s.rep.status.validated = false →
      (n = 0x015 → back = v) ∧
      (0x100 ≤ n → n < 0x100 + s.params.frameCap → back = v &&& 0xFF#32))

/-- Rule R62 with R12, R23 to R32, R37 and R40: what a register write stores, field by field, and under
which code. -/
def Obligations.RegisterWritesStoreTheirFields : Prop :=
  ∀ (s : State) (v : Word), s.shaped →
    let wr (n : Nat) : State := hostWrite s (BitVec.ofNat 14 n) v
    (wr 0x006).inp.clsDur = v ∧ (wr 0x008).cfg.base = v ∧ (wr 0x009).cfg.tol = v ∧
    (policyNumber (wr 0x00A).policy = v.toNat % 4 ∧ (wr 0x00A).diff = v[2] ∧
      (wr 0x00A).lenient = v[3]) ∧
    (wr 0x00B).cfg.numDataBits = v ∧ (wr 0x00C).cfg.expectedSyms = v ∧
    (wr 0x00D).cfg.rawSkipHead = v ∧ (wr 0x00E).cfg.startLen = v ∧ (wr 0x00F).cfg.stopLen = v ∧
    (wr 0x010).inp.symCount = v ∧
    (∀ i, i < s.params.patCap →
      patLevelNumber ((wr (0x020 + 2 * i)).startPatAt i).level = v.toNat % 4 ∧
        ((wr (0x021 + 2 * i)).startPatAt i).mult = v ∧
      patLevelNumber ((wr (0x040 + 2 * i)).stopPatAt i).level = v.toNat % 4 ∧
        ((wr (0x041 + 2 * i)).stopPatAt i).mult = v) ∧
    (∀ i, i < s.params.rawCap →
      ((wr (0x1000 + 4 * i)).rawAt i).dur0 = v ∧ ((wr (0x1001 + 4 * i)).rawAt i).dur1 = v ∧
        levelNumber ((wr (0x1002 + 4 * i)).rawAt i).level0 = v.toNat % 2 ∧
        levelNumber ((wr (0x1002 + 4 * i)).rawAt i).level1 = v.toNat / 2 % 2) ∧
    (s.rep.status.validated = false →
      (wr 0x015).out.bitCount = v ∧
      ∀ i, i < s.params.frameCap → ((wr (0x100 + i)).frameAt i).toNat = v.toNat % 256)

/-- Rule R62: a register write leaves every other word of the register space as it was. -/
def Obligations.RegisterWritesLeaveOtherWordsAlone : Prop :=
  ∀ (s : State) (a b : Addr) (v : Word), a ≠ b → hostRead (hostWrite s a v) b = hostRead s b

/-- Rule R62: a register write never touches STATUS, the other status registers, the working registers
or the readings; a step that performs one does that and takes it off the model's queue (log entries 5
and 6). -/
def Obligations.RegisterWritesNeverTouchResults : Prop :=
  ∀ (s : State) (a : Addr) (v : Word) (rest : List HostEvent),
    s.pending = .write a v :: rest → a ≠ cmdAddr →
    ∃ t, step s = .next t ∧ t = hostWrite { s with pending := rest, rdata := none } a v ∧
      t.rep = s.rep ∧ t.work = s.work ∧ t.out.humX10 = s.out.humX10 ∧
      t.out.tempX10 = s.out.tempX10 ∧ t.params = s.params ∧ t.pending = rest ∧ t.rdata = none ∧
      t.resets = s.resets

/-- Rules R40 and R206: while STATUS.VALIDATED = 1 a host write to BIT_COUNT or FRAME is ignored. -/
def Obligations.LockedFrameIgnoresHostWrites : Prop :=
  ∀ (s : State) (a : Addr) (v : Word), s.params.legal = true → s.rep.status.validated = true →
    (a.toNat = 0x015 ∨ (0x100 ≤ a.toNat ∧ a.toNat < 0x100 + s.params.frameCap)) →
    hostWrite s a v = s

/-! ## NOP, CLEAR, CLASSIFY -/

/-- Rule R222: NOP clears the outcome of the last command and changes nothing else, as the host reads
it: of all words only bits 17:16 of STATUS. -/
def Obligations.NopClearsOnlyTheCommandOutcome : Prop :=
  (∀ ctrl, decodeWord ctrl 0x00000000#32 = .instr .nop) ∧
  ∀ s : State, ∃ t, exec .nop s = .next t ∧
    hostRead t 0x0001#14 = hostRead s 0x0001#14 &&& 0xFFFCFFFF#32 ∧
    (∀ a, a ≠ 0x0001#14 → hostRead t a = hostRead s a) ∧
    t.out = s.out ∧ t.work = s.work ∧ s.sameInputs t

/-- Rule R223: CLEAR gives every working, output and status register its reset value and leaves the
configuration, the inputs and the contents of UNIT. -/
def Obligations.ClearRestoresTheResetResults : Prop :=
  (∀ ctrl, decodeWord ctrl 0x00000001#32 = .instr .clear) ∧
  ∀ s : State,
    exec .clear s = .next
      { s with
        work :=
          { unitCount := 0#32, payStart := 0#32, payCount := 0#32, payPad := Pad.zero
            units := s.work.units }
        out := s.out.blank
        rep :=
          { status := Status.zero, errIndex := -1#32, bitErrCount := 0#32, bitErrFirst := -1#32
            skipCount := 0#32, clsResult := ClsResult.zero } }

/-- Rules R104, R100 and R101: CLASSIFY reports the window tests of multiples 1, 2 and 3 and the class,
Single before Double, and changes CLS_RESULT and CMD_ERR only. -/
def Obligations.ClassifyReportsTheThreeWindows : Prop :=
  (∀ ctrl, decodeWord ctrl 0x00000002#32 = .instr .classify) ∧
  ∀ s : State,
    let d := s.inp.clsDur
    let b := s.cfg.base
    let t := s.cfg.tol
    exec .classify s = .next
      { s with
        rep.status.cmdErr := .accepted
        rep.clsResult :=
          { cls := if window 1 d b t then .single else if window 2 d b t then .double else .invalid
            in1 := decide (window 1 d b t), in2 := decide (window 2 d b t)
            in3 := decide (window 3 d b t) } }

/-- The bounds of the windows, as rule R105 gives them; at base = tol = 0, where its "otherwise" meets
the empty double window, rules R100 and R101 decide (assumption log entry 16). -/
def Obligations.ClassificationAtTheWindowBounds : Prop :=
  ∀ d base tol : Word,
    let dn := d.toNat
    let b := base.toNat
    let t := tol.toNat
    (dn = b + t → classify d base tol = .single) ∧
    (t ≤ b → dn = b - t → classify d base tol = .single) ∧
    (dn = b + t + 1 → 3 * t + 1 < b → classify d base tol = .invalid) ∧
    (dn = b + t + 1 → b ≤ 3 * t + 1 → 0 < b + t → classify d base tol = .double) ∧
    (dn = 1 → b + t = 0 → classify d base tol = .invalid) ∧
    (dn = 2 * b + 2 * t → 3 * t < b → classify d base tol = .double) ∧
    (dn = 2 * b + 2 * t + 1 → 3 * t < b → classify d base tol = .invalid)

/-! ## U2 -/

/-- Rules R120 to R123, R126, R127: NORMALIZE writes the emissions of the halves it gets through, one
after another from UNIT[0] on, counts the skipped ones, clears every later result, and records
InvalidPulseWidth at the first half that fails, if there is one. -/
def Obligations.NormalizeWritesTheWalkedHalves : Prop :=
  ∀ s : State, s.shaped → ¬ s.misconfigured .normalize →
    let pulses := s.walkedHalves.flatMap s.halfEmits
    let failure := (capturedHalves s.symCount)[s.walkedHalves.length]?
    pulses.length ≤ 4 * s.symCount ∧
    exec .normalize s = .next
      { s with
        work :=
          { unitCount := BitVec.ofNat 32 pulses.length
            payStart := 0#32, payCount := 0#32, payPad := Pad.zero
            units := pulses ++ s.work.units.drop pulses.length }
        out := s.out.blank
        rep :=
          { status :=
              match failure with
              | none => Status.doneOnly
              | some p =>
                Status.doneWith
                  { kind := .invalidPulseWidth, unit := .normalizer, index := BitVec.ofNat 32 p.1, half := p.2 }
            errIndex :=
              match failure with
              | none => -1#32
              | some p => BitVec.ofNat 32 p.1
            bitErrCount := 0#32, bitErrFirst := -1#32
            skipCount := BitVec.ofNat 32 (s.walkedHalves.countP s.halfSkips)
            clsResult := s.rep.clsResult } }

/-- Rule R125: every unit pulse that NORMALIZE emits lies in the single window. -/
def Obligations.EmittedPulsesLieInTheSingleWindow : Prop :=
  ∀ s t : State, s.shaped → ¬ s.misconfigured .normalize → exec .normalize s = .next t →
    ∀ j, j < t.unitCount → window 1 (t.unitAt j).dur s.cfg.base s.cfg.tol

/-- Rule R124: after a NORMALIZE without error the unit pulses together last as long as the durations
that were not skipped, less the remainder of each halved odd Double. -/
def Obligations.SplittingDropsOnlyTheRemainder : Prop :=
  ∀ s t : State, s.shaped → ¬ s.misconfigured .normalize → exec .normalize s = .next t → t.noError →
    ((List.range t.unitCount).map fun j => (t.unitAt j).dur.toNat).sum =
      ((capturedHalves s.symCount).map s.halfKept).sum

/-- Rule R123: a lenient NORMALIZE raises no error and drops exactly the Invalid durations. -/
def Obligations.LenientNormalizeNeverFails : Prop :=
  ∀ s : State, s.shaped → ¬ s.misconfigured .normalize → s.lenient = true →
    ∃ t, exec .normalize s = .next t ∧ t.noError ∧ t.rep.errIndex = -1#32 ∧
      t.rep.skipCount.toNat =
        (capturedHalves s.symCount).countP (fun p => s.halfDur p != 0#32 && s.halfClass p == .invalid)

/-! ## U3 -/

/-- Rules R142 and R147: MATCH fails with IncompleteFrame, at UNIT_COUNT when the sequence is too
short, else at the first start entry that mismatches, else at the pulse of the first stop entry
that mismatches; the window stays empty and UNIT is as it was. -/
def Obligations.MatchReportsTheFirstMismatch : Prop :=
  ∀ s : State, ¬ s.misconfigured .matchPreamble →
    let failed (j : Nat) : State :=
      { s with
        work := { s.work with payStart := 0#32, payCount := 0#32, payPad := Pad.zero }
        out := s.out.blank
        rep :=
          { status :=
              Status.doneWith { kind := .incompleteFrame, unit := .matcher, index := 0#32, half := .first }
            errIndex := BitVec.ofNat 32 j, bitErrCount := 0#32, bitErrFirst := -1#32
            skipCount := s.rep.skipCount, clsResult := s.rep.clsResult } }
    let fits : Prop := s.startLen + s.stopLen ≤ s.unitCount
    (¬ fits → exec .matchPreamble s = .next (failed s.unitCount)) ∧
    (∀ i, fits → i < s.startLen → ¬ s.startOk i → (∀ i', i' < i → s.startOk i') →
      exec .matchPreamble s = .next (failed i)) ∧
    (∀ k, fits → (∀ i, i < s.startLen → s.startOk i) → k < s.stopLen → ¬ s.stopOk k →
      (∀ k', k' < k → s.stopOk k') → exec .matchPreamble s = .next (failed (s.stopPulse k)))

/-- Rules R142, R143 and R146: when the sequence is long enough and every entry accepts its pulse,
MATCH writes the window between the patterns, and pads it to an even count when there is no stop
pattern, the pad at the level opposite to the last pulse. -/
def Obligations.MatchWritesThePayloadWindow : Prop :=
  ∀ s : State, ¬ s.misconfigured .matchPreamble → s.startLen + s.stopLen ≤ s.unitCount →
    (∀ i, i < s.startLen → s.startOk i) → (∀ k, k < s.stopLen → s.stopOk k) →
    let count := s.unitCount - s.startLen - s.stopLen
    let padded : Bool := s.stopLen = 0 ∧ count % 2 = 1
    exec .matchPreamble s = .next
      { s with
        work :=
          { s.work with
            payStart := s.cfg.startLen
            payCount := BitVec.ofNat 32 (if padded then count + 1 else count)
            payPad :=
              if padded then
                { pad := true
                  level := if (s.unitAt (s.unitCount - 1)).level = .low then .high else .low }
              else Pad.zero }
        out := s.out.blank
        rep :=
          { status := Status.doneOnly, errIndex := -1#32, bitErrCount := 0#32, bitErrFirst := -1#32
            skipCount := s.rep.skipCount, clsResult := s.rep.clsResult } }

/-! ## U4 -/

/-- Rule R164: with 40 data symbols in the capture, ASSEMBLE under DhtMarkSpace decodes them MSB-first,
a symbol in neither window giving 0 and a log entry; with fewer it is IncompleteFrame at SYM_COUNT. -/
def Obligations.AssembleDhtDecodesFortySymbols : Prop :=
  (∀ ctrl : Ctrl, Instr.assembleDht.wellFormed ctrl = true →
    decodeWord ctrl 0x00000005#32 = .instr .assembleDht) ∧
  ∀ s : State, s.shaped → Instr.assembleDht.wellFormed s.cfg.ctrl = true →
    ¬ s.misconfigured .assembleDht →
    (s.rawSkipHead + 40 ≤ s.symCount →
      ∃ t, exec .assembleDht s = .next t ∧
        s.assembles t .msb 40
          (fun k => decide (s.rawAt (s.rawSkipHead + k)).dhtOne)
          (fun k =>
            decide (¬ (s.rawAt (s.rawSkipHead + k)).dhtOne ∧ ¬ (s.rawAt (s.rawSkipHead + k)).dhtZero))) ∧
    (s.symCount < s.rawSkipHead + 40 →
      exec .assembleDht s = .next (s.assemblyFailed s.inp.symCount))

/-- Rule R171: ASSEMBLE under PulseDistance decodes NUM_DATA_BITS symbols LSB-first, the base window
before the triple window; with too few symbols it is IncompleteFrame at SYM_COUNT. -/
def Obligations.AssemblePulseDistanceDecodesTheDataBits : Prop :=
  (∀ ctrl : Ctrl, Instr.assemblePd.wellFormed ctrl = true →
    decodeWord ctrl 0x00000005#32 = .instr .assemblePd) ∧
  ∀ s : State, s.shaped → Instr.assemblePd.wellFormed s.cfg.ctrl = true →
    ¬ s.misconfigured .assemblePd →
    (s.rawSkipHead + s.numDataBits ≤ s.symCount →
      ∃ t, exec .assemblePd s = .next t ∧
        s.assembles t .lsb s.numDataBits
          (fun k => decide ((s.rawAt (s.rawSkipHead + k)).distanceOne s.cfg.base s.cfg.tol))
          (fun k => decide (¬ (s.rawAt (s.rawSkipHead + k)).distanceOne s.cfg.base s.cfg.tol ∧
            ¬ (s.rawAt (s.rawSkipHead + k)).distanceZero s.cfg.base s.cfg.tol))) ∧
    (s.symCount < s.rawSkipHead + s.numDataBits →
      exec .assemblePd s = .next (s.assemblyFailed s.inp.symCount))

/-- Rule R167 with rule R166: a pair decodes to 1 exactly when it is (Low, High), and a pair without a
transition is logged; an odd payload and a pair count other than a non-zero NUM_DATA_BITS are
IncompleteFrame, in this order. -/
def Obligations.AssembleManchesterFollowsItsTable : Prop :=
  (∀ ctrl : Ctrl, Instr.assembleMan.wellFormed ctrl = true →
    decodeWord ctrl 0x00000005#32 = .instr .assembleMan) ∧
  ∀ s : State, s.inv → Instr.assembleMan.wellFormed s.cfg.ctrl = true →
    (s.payCount % 2 = 0 → s.numDataBits = 0 ∨ s.payCount / 2 = s.numDataBits →
      ∃ t, exec .assembleMan s = .next t ∧
        s.assembles t .msb (s.payCount / 2)
          (fun k => decide (s.payLevel (2 * k) = .low ∧ s.payLevel (2 * k + 1) = .high))
          (fun k => decide (s.payLevel (2 * k) = s.payLevel (2 * k + 1)))) ∧
    (s.payCount % 2 = 1 →
      exec .assembleMan s = .next (s.assemblyFailed (BitVec.ofNat 32 (s.payStart + s.payCount - 1)))) ∧
    (s.payCount % 2 = 0 → s.numDataBits ≠ 0 → s.payCount / 2 ≠ s.numDataBits →
      exec .assembleMan s = .next (s.assemblyFailed (-1#32)))

/-- Rule R168 with rule R166: a pair decodes to 0 exactly when it is (Low, High), and nothing is logged;
the length checks are those of normal Manchester. -/
def Obligations.AssembleDifferentialFollowsItsTable : Prop :=
  (∀ ctrl : Ctrl, Instr.assembleDman.wellFormed ctrl = true →
    decodeWord ctrl 0x00000005#32 = .instr .assembleDman) ∧
  ∀ s : State, s.inv → Instr.assembleDman.wellFormed s.cfg.ctrl = true →
    (s.payCount % 2 = 0 → s.numDataBits = 0 ∨ s.payCount / 2 = s.numDataBits →
      ∃ t, exec .assembleDman s = .next t ∧
        s.assembles t .msb (s.payCount / 2)
          (fun k => decide (¬ (s.payLevel (2 * k) = .low ∧ s.payLevel (2 * k + 1) = .high)))
          (fun _ => false)) ∧
    (s.payCount % 2 = 1 →
      exec .assembleDman s = .next (s.assemblyFailed (BitVec.ofNat 32 (s.payStart + s.payCount - 1)))) ∧
    (s.payCount % 2 = 0 → s.numDataBits ≠ 0 → s.payCount / 2 ≠ s.numDataBits →
      exec .assembleDman s = .next (s.assemblyFailed (-1#32)))

/-- Rule R165: the levels a Manchester pair is made of: stored unit pulses, the pad pulse last. -/
def Obligations.PayloadLevelsComeFromTheWindow : Prop :=
  ∀ (s : State) (j : Nat), j < s.payCount →
    s.payLevel j =
      if s.work.payPad.pad = true ∧ j = s.payCount - 1 then s.work.payPad.level
      else (s.unitAt (s.payStart + j)).level

/-! ## U5 -/

/-- Rules R201 and R202: VALIDATE under DhtMarkSpace. A frame that is not 40 bits is IncompleteFrame
and not locked; otherwise the readings are computed and the frame is locked whatever the additive
check says, and only the check decides between delivery and ChecksumMismatch. -/
def Obligations.ValidateDhtChecksTheSum : Prop :=
  ∀ s : State, Instr.validateDht.wellFormed s.cfg.ctrl = true →
    let b (i : Nat) : Nat := (s.frameAt i).toNat
    ∃ t, exec .validateDht s = .next t ∧ s.sameInputs t ∧ t.work = s.work ∧
      t.out.frame = s.out.frame ∧ t.out.bitCount = s.out.bitCount ∧ t.rep.errIndex = -1#32 ∧
      t.rep.bitErrCount = s.rep.bitErrCount ∧ t.rep.bitErrFirst = s.rep.bitErrFirst ∧
      t.rep.skipCount = s.rep.skipCount ∧ t.rep.clsResult = s.rep.clsResult ∧
      (s.bitCount ≠ 40 →
        t.out.humX10 = 0#32 ∧ t.out.tempX10 = 0#32 ∧
        t.rep.status =
          { Status.doneOnly with
            errKind := .incompleteFrame, errUnit := .validator, chk := .notApplicable }) ∧
      (s.bitCount = 40 →
        t.out.humX10.toNat = 256 * b 0 + b 1 ∧
        t.out.tempX10.toInt =
          (if 128 ≤ b 2 then -1 else 1) * ((256 * (b 2 % 128) + b 3 : Nat) : Int) ∧
        t.rep.status =
          if b 4 = (b 0 + b 1 + b 2 + b 3) % 256 then
            { Status.doneOnly with
              chk := .pass, validated := true, frameOk := true, htValid := true
              tempNeg := decide (128 ≤ b 2) }
          else
            { Status.doneOnly with
              errKind := .checksumMismatch, errUnit := .validator
              chk := .fail, validated := true, htValid := true, tempNeg := decide (128 ≤ b 2) })

/-- The checksum property of the document's section 8 (95_test_vectors.md S8-3): a frame built from a
humidity and a temperature in tenths validates and gives both back, sign-correct. -/
def Obligations.ChecksummedReadingsAreRecovered : Prop :=
  ∀ (s : State) (h : Nat) (temp : Int), Instr.validateDht.wellFormed s.cfg.ctrl = true →
    h ≤ 999 → -999 ≤ temp → temp ≤ 999 → s.bitCount = 40 →
    let m := temp.natAbs
    let b2 := m / 256 + if temp < 0 then 128 else 0
    (s.frameAt 0).toNat = h / 256 → (s.frameAt 1).toNat = h % 256 →
    (s.frameAt 2).toNat = b2 → (s.frameAt 3).toNat = m % 256 →
    (s.frameAt 4).toNat = (h / 256 + h % 256 + b2 + m % 256) % 256 →
    ∃ t, exec .validateDht s = .next t ∧ t.noError ∧ t.rep.status.chk = .pass ∧
      t.rep.status.htValid = true ∧ t.out.humX10.toNat = h ∧ t.out.tempX10.toInt = temp ∧
      (t.rep.status.tempNeg = true ↔ temp < 0)

/-- Rule R203: VALIDATE under PulseDistance. A pair of a 32-bit frame fails exactly when some bit
position is 0 in both bytes; the check is advisory, the frame is delivered and locked in any case. -/
def Obligations.ValidateNecIsAnAdvisoryOrTest : Prop :=
  (∀ ctrl : Ctrl, Instr.validateNec.wellFormed ctrl = true →
    decodeWord ctrl 0x00000006#32 = .instr .validateNec) ∧
  ∀ s : State, Instr.validateNec.wellFormed s.cfg.ctrl = true →
    ∃ t, exec .validateNec s = .next t ∧ s.sameInputs t ∧ t.work = s.work ∧
      t.out = { s.out with humX10 := 0#32, tempX10 := 0#32 } ∧
      t.rep =
        { s.rep with
          errIndex := -1#32
          status :=
            { Status.doneOnly with
              chk := t.rep.status.chk, validated := true, frameOk := true
              necFail0 := t.rep.status.necFail0, necFail1 := t.rep.status.necFail1 } } ∧
      (s.bitCount = 32 →
        (t.rep.status.necFail0 = true ↔
          ∃ q, q < 8 ∧ (s.frameAt 0).getLsbD q = false ∧ (s.frameAt 1).getLsbD q = false) ∧
        (t.rep.status.necFail1 = true ↔
          ∃ q, q < 8 ∧ (s.frameAt 2).getLsbD q = false ∧ (s.frameAt 3).getLsbD q = false) ∧
        t.rep.status.chk =
          if t.rep.status.necFail0 = true ∨ t.rep.status.necFail1 = true then .fail else .pass) ∧
      (s.bitCount ≠ 32 →
        t.rep.status.necFail0 = false ∧ t.rep.status.necFail1 = false ∧
        t.rep.status.chk = .notApplicable)

/-- Rule R204: VALIDATE under Manchester passes the frame through, whatever it holds. -/
def Obligations.ValidateNonePassesTheFrameThrough : Prop :=
  (∀ ctrl : Ctrl, Instr.validateNone.wellFormed ctrl = true →
    decodeWord ctrl 0x00000006#32 = .instr .validateNone) ∧
  ∀ s : State, Instr.validateNone.wellFormed s.cfg.ctrl = true →
    exec .validateNone s = .next
      { s with
        out.humX10 := 0#32, out.tempX10 := 0#32, rep.errIndex := -1#32
        rep.status :=
          { Status.doneOnly with chk := .notApplicable, validated := true, frameOk := true } }

/-! ## DECODE -/

/-- Rule R225: DECODE skips a capture whose symbol count is not the expected one: SKIPPED,
IncompleteFrame of the frame gate, every result cleared, no stage run. -/
def Obligations.DecodeSkipsExtraneousCaptures : Prop :=
  ∀ s : State, ¬ s.misconfigured .decode → ¬ s.gateOpen →
    exec .decode s = .next
      { s with
        work :=
          { unitCount := 0#32, payStart := 0#32, payCount := 0#32, payPad := Pad.zero
            units := s.work.units }
        out := s.out.blank
        rep :=
          { status :=
              { Status.doneOnly with errKind := .incompleteFrame, errUnit := .frameGate, skipped := true }
            errIndex := -1#32, bitErrCount := 0#32, bitErrFirst := -1#32
            skipCount := 0#32, clsResult := s.rep.clsResult } }

/-- Rules R226 to R228: with the gate open, DECODE ends in the state in which CLEAR and the staged
commands of its policy end at the first of them that raises an error, or after the last, except
that it leaves CLS_RESULT alone; and a second DECODE changes nothing. -/
def Obligations.DecodeAgreesWithTheStagedCommands : Prop :=
  ∀ s : State, s.shaped → ¬ s.misconfigured .decode → s.gateOpen →
    (s.policy = .manchester →
      ∃ t s1 s2 s3 s4 s5, exec .decode s = .next t ∧ exec .decode t = .next t ∧
        exec .clear s = .next s1 ∧ exec .normalize s1 = .next s2 ∧
        exec .matchPreamble s2 = .next s3 ∧
        exec (if s.diff then .assembleDman else .assembleMan) s3 = .next s4 ∧
        exec .validateNone s4 = .next s5 ∧
        (¬ s2.noError → t = { s2 with rep.clsResult := s.rep.clsResult }) ∧
        (s2.noError → ¬ s3.noError → t = { s3 with rep.clsResult := s.rep.clsResult }) ∧
        (s2.noError → s3.noError → ¬ s4.noError → t = { s4 with rep.clsResult := s.rep.clsResult }) ∧
        (s2.noError → s3.noError → s4.noError → t = { s5 with rep.clsResult := s.rep.clsResult })) ∧
    (s.policy ≠ .manchester →
      ∃ t s1 s4 s5, exec .decode s = .next t ∧ exec .decode t = .next t ∧
        exec .clear s = .next s1 ∧
        exec (if s.policy = .dhtMarkSpace then .assembleDht else .assemblePd) s1 = .next s4 ∧
        exec (if s.policy = .dhtMarkSpace then .validateDht else .validateNec) s4 = .next s5 ∧
        (¬ s4.noError → t = { s4 with rep.clsResult := s.rep.clsResult }) ∧
        (s4.noError → t = { s5 with rep.clsResult := s.rep.clsResult }))

/-- Rule R44: the results of DECODE depend on the configuration and the inputs only; nothing of an
earlier decode is left but CLS_RESULT and the UNIT entries above UNIT_COUNT. -/
def Obligations.DecodeDependsOnlyOnConfigurationAndInputs : Prop :=
  ∀ s s' t t' : State, s.shaped → s'.shaped →
    s'.params = s.params → s'.cfg = s.cfg → s'.inp = s.inp →
    ¬ s.misconfigured .decode → exec .decode s = .next t → exec .decode s' = .next t' →
    t'.out = t.out ∧ t'.rep = { t.rep with clsResult := s'.rep.clsResult } ∧
    t'.unitCount = t.unitCount ∧ t'.payStart = t.payStart ∧ t'.payCount = t.payCount ∧
    t'.work.payPad = t.work.payPad ∧ (∀ j, j < t.unitCount → t'.unitAt j = t.unitAt j)

/-! ## Across the commands -/

/-- Rule R71: a command run twice in a row leaves the state that running it once leaves; register
writes are idempotent too, and reads have no side effect to repeat, as two reads in the model's queue
show (log entries 5 and 6). -/
def Obligations.CommandsAndWritesAreIdempotent : Prop :=
  (∀ (i : Instr) (s t : State), s.shaped → exec i s = .next t → exec i t = .next t) ∧
  (∀ (s : State) (a : Addr) (v : Word), hostWrite (hostWrite s a v) a v = hostWrite s a v) ∧
  (∀ (s : State) (a : Addr), s.pending = [.read a, .read a] →
    ∃ t u, step s = .next t ∧ step t = .next u ∧ u = { t with pending := [] })

/-- Table T224 and rule R43: no command writes a configuration or input register, a stage keeps the
outputs of the stages before it, and only CLASSIFY and CLEAR write CLS_RESULT. -/
def Obligations.CommandsKeepWhatLiesUpstream : Prop :=
  ∀ (i : Instr) (s t : State), exec i s = .next t →
    s.sameInputs t ∧
    (i ≠ .classify → i ≠ .clear → t.rep.clsResult = s.rep.clsResult) ∧
    (i ≠ .normalize → i ≠ .decode → t.work.units = s.work.units) ∧
    (i ≠ .normalize → i ≠ .decode → i ≠ .clear →
      t.work.unitCount = s.work.unitCount ∧ t.rep.skipCount = s.rep.skipCount) ∧
    (i ≠ .normalize → i ≠ .decode → i ≠ .clear → i ≠ .matchPreamble →
      t.work.payStart = s.work.payStart ∧ t.work.payCount = s.work.payCount ∧
      t.work.payPad = s.work.payPad) ∧
    (i = .nop ∨ i = .classify ∨ i = .validateDht ∨ i = .validateNone ∨ i = .validateNec →
      t.out.frame = s.out.frame ∧ t.out.bitCount = s.out.bitCount ∧
      t.rep.bitErrCount = s.rep.bitErrCount ∧ t.rep.bitErrFirst = s.rep.bitErrFirst)

/-- Rule R246: a recorded DecodeError stays as it is through NOP, CLASSIFY, a refused command, host reads
and host writes of registers; the events stand in the model's queue (log entries 5 and 6). -/
def Obligations.ErrorsStayUntilTheNextStageCommand : Prop :=
  ∀ (s t : State) (e : HostEvent) (rest : List HostEvent), s.pending = e :: rest → step s = .next t →
    (∃ a, e = .read a) ∨ (∃ a v, e = .write a v ∧ a ≠ cmdAddr) ∨
      (∃ w, e = .write cmdAddr w ∧
        (decodeWord s.cfg.ctrl w = .instr .nop ∨ decodeWord s.cfg.ctrl w = .instr .classify ∨
          t.rep.status.cmdErr ≠ .accepted)) →
    t.rep.status.errKind = s.rep.status.errKind ∧ t.rep.status.errUnit = s.rep.status.errUnit ∧
    t.rep.status.errHalf = s.rep.status.errHalf ∧ t.rep.errIndex = s.rep.errIndex
end

