-- ==== Sys2Proof/Laws/State.lean ====
section
/-! SUPPORT. What each named update of the state leaves in each field: one lemma per update and field,
true by definition, so that no later proof unfolds a record update. A group of registers that an
update does not touch has one lemma for the whole group. -/

namespace Sys2Proof.Machine

/-! ### accept -/

@[simp] theorem State.accept_params (s : State) : s.accept.params = s.params := rfl
@[simp] theorem State.accept_cfg (s : State) : s.accept.cfg = s.cfg := rfl
@[simp] theorem State.accept_inp (s : State) : s.accept.inp = s.inp := rfl
@[simp] theorem State.accept_work (s : State) : s.accept.work = s.work := rfl
@[simp] theorem State.accept_out (s : State) : s.accept.out = s.out := rfl
@[simp] theorem State.accept_rep_errIndex (s : State) : s.accept.rep.errIndex = s.rep.errIndex := rfl
@[simp] theorem State.accept_rep_bitErrCount (s : State) : s.accept.rep.bitErrCount = s.rep.bitErrCount := rfl
@[simp] theorem State.accept_rep_bitErrFirst (s : State) : s.accept.rep.bitErrFirst = s.rep.bitErrFirst := rfl
@[simp] theorem State.accept_rep_skipCount (s : State) : s.accept.rep.skipCount = s.rep.skipCount := rfl
@[simp] theorem State.accept_rep_clsResult (s : State) : s.accept.rep.clsResult = s.rep.clsResult := rfl
@[simp] theorem State.accept_done (s : State) : s.accept.rep.status.done = s.rep.status.done := rfl
@[simp] theorem State.accept_errKind (s : State) : s.accept.rep.status.errKind = s.rep.status.errKind := rfl
@[simp] theorem State.accept_errUnit (s : State) : s.accept.rep.status.errUnit = s.rep.status.errUnit := rfl
@[simp] theorem State.accept_errHalf (s : State) : s.accept.rep.status.errHalf = s.rep.status.errHalf := rfl
@[simp] theorem State.accept_skipped (s : State) : s.accept.rep.status.skipped = s.rep.status.skipped := rfl
@[simp] theorem State.accept_chk (s : State) : s.accept.rep.status.chk = s.rep.status.chk := rfl
@[simp] theorem State.accept_validated (s : State) : s.accept.rep.status.validated = s.rep.status.validated := rfl
@[simp] theorem State.accept_frameOk (s : State) : s.accept.rep.status.frameOk = s.rep.status.frameOk := rfl
@[simp] theorem State.accept_htValid (s : State) : s.accept.rep.status.htValid = s.rep.status.htValid := rfl
@[simp] theorem State.accept_tempNeg (s : State) : s.accept.rep.status.tempNeg = s.rep.status.tempNeg := rfl
@[simp] theorem State.accept_necFail0 (s : State) : s.accept.rep.status.necFail0 = s.rep.status.necFail0 := rfl
@[simp] theorem State.accept_necFail1 (s : State) : s.accept.rep.status.necFail1 = s.rep.status.necFail1 := rfl
@[simp] theorem State.accept_cmdErr (s : State) : s.accept.rep.status.cmdErr = .accepted := rfl
@[simp] theorem State.accept_pending (s : State) : s.accept.pending = s.pending := rfl
@[simp] theorem State.accept_rdata (s : State) : s.accept.rdata = s.rdata := rfl
@[simp] theorem State.accept_resets (s : State) : s.accept.resets = s.resets := rfl

/-! ### refuse -/

@[simp] theorem State.refuse_params (code : CmdErr) (s : State) : (s.refuse code).params = s.params := rfl
@[simp] theorem State.refuse_cfg (code : CmdErr) (s : State) : (s.refuse code).cfg = s.cfg := rfl
@[simp] theorem State.refuse_inp (code : CmdErr) (s : State) : (s.refuse code).inp = s.inp := rfl
@[simp] theorem State.refuse_work (code : CmdErr) (s : State) : (s.refuse code).work = s.work := rfl
@[simp] theorem State.refuse_out (code : CmdErr) (s : State) : (s.refuse code).out = s.out := rfl
@[simp] theorem State.refuse_rep_errIndex (code : CmdErr) (s : State) : (s.refuse code).rep.errIndex = s.rep.errIndex := rfl
@[simp] theorem State.refuse_rep_bitErrCount (code : CmdErr) (s : State) : (s.refuse code).rep.bitErrCount = s.rep.bitErrCount := rfl
@[simp] theorem State.refuse_rep_bitErrFirst (code : CmdErr) (s : State) : (s.refuse code).rep.bitErrFirst = s.rep.bitErrFirst := rfl
@[simp] theorem State.refuse_rep_skipCount (code : CmdErr) (s : State) : (s.refuse code).rep.skipCount = s.rep.skipCount := rfl
@[simp] theorem State.refuse_rep_clsResult (code : CmdErr) (s : State) : (s.refuse code).rep.clsResult = s.rep.clsResult := rfl
@[simp] theorem State.refuse_done (code : CmdErr) (s : State) : (s.refuse code).rep.status.done = s.rep.status.done := rfl
@[simp] theorem State.refuse_errKind (code : CmdErr) (s : State) : (s.refuse code).rep.status.errKind = s.rep.status.errKind := rfl
@[simp] theorem State.refuse_errUnit (code : CmdErr) (s : State) : (s.refuse code).rep.status.errUnit = s.rep.status.errUnit := rfl
@[simp] theorem State.refuse_errHalf (code : CmdErr) (s : State) : (s.refuse code).rep.status.errHalf = s.rep.status.errHalf := rfl
@[simp] theorem State.refuse_skipped (code : CmdErr) (s : State) : (s.refuse code).rep.status.skipped = s.rep.status.skipped := rfl
@[simp] theorem State.refuse_chk (code : CmdErr) (s : State) : (s.refuse code).rep.status.chk = s.rep.status.chk := rfl
@[simp] theorem State.refuse_validated (code : CmdErr) (s : State) : (s.refuse code).rep.status.validated = s.rep.status.validated := rfl
@[simp] theorem State.refuse_frameOk (code : CmdErr) (s : State) : (s.refuse code).rep.status.frameOk = s.rep.status.frameOk := rfl
@[simp] theorem State.refuse_htValid (code : CmdErr) (s : State) : (s.refuse code).rep.status.htValid = s.rep.status.htValid := rfl
@[simp] theorem State.refuse_tempNeg (code : CmdErr) (s : State) : (s.refuse code).rep.status.tempNeg = s.rep.status.tempNeg := rfl
@[simp] theorem State.refuse_necFail0 (code : CmdErr) (s : State) : (s.refuse code).rep.status.necFail0 = s.rep.status.necFail0 := rfl
@[simp] theorem State.refuse_necFail1 (code : CmdErr) (s : State) : (s.refuse code).rep.status.necFail1 = s.rep.status.necFail1 := rfl
@[simp] theorem State.refuse_cmdErr (code : CmdErr) (s : State) : (s.refuse code).rep.status.cmdErr = code := rfl
@[simp] theorem State.refuse_pending (code : CmdErr) (s : State) : (s.refuse code).pending = s.pending := rfl
@[simp] theorem State.refuse_rdata (code : CmdErr) (s : State) : (s.refuse code).rdata = s.rdata := rfl
@[simp] theorem State.refuse_resets (code : CmdErr) (s : State) : (s.refuse code).resets = s.resets := rfl

/-! ### finish -/

@[simp] theorem State.finish_params (s : State) : s.finish.params = s.params := rfl
@[simp] theorem State.finish_cfg (s : State) : s.finish.cfg = s.cfg := rfl
@[simp] theorem State.finish_inp (s : State) : s.finish.inp = s.inp := rfl
@[simp] theorem State.finish_work (s : State) : s.finish.work = s.work := rfl
@[simp] theorem State.finish_out (s : State) : s.finish.out = s.out := rfl
@[simp] theorem State.finish_rep_errIndex (s : State) : s.finish.rep.errIndex = s.rep.errIndex := rfl
@[simp] theorem State.finish_rep_bitErrCount (s : State) : s.finish.rep.bitErrCount = s.rep.bitErrCount := rfl
@[simp] theorem State.finish_rep_bitErrFirst (s : State) : s.finish.rep.bitErrFirst = s.rep.bitErrFirst := rfl
@[simp] theorem State.finish_rep_skipCount (s : State) : s.finish.rep.skipCount = s.rep.skipCount := rfl
@[simp] theorem State.finish_rep_clsResult (s : State) : s.finish.rep.clsResult = s.rep.clsResult := rfl
@[simp] theorem State.finish_done (s : State) : s.finish.rep.status.done = true := rfl
@[simp] theorem State.finish_errKind (s : State) : s.finish.rep.status.errKind = s.rep.status.errKind := rfl
@[simp] theorem State.finish_errUnit (s : State) : s.finish.rep.status.errUnit = s.rep.status.errUnit := rfl
@[simp] theorem State.finish_errHalf (s : State) : s.finish.rep.status.errHalf = s.rep.status.errHalf := rfl
@[simp] theorem State.finish_skipped (s : State) : s.finish.rep.status.skipped = s.rep.status.skipped := rfl
@[simp] theorem State.finish_chk (s : State) : s.finish.rep.status.chk = s.rep.status.chk := rfl
@[simp] theorem State.finish_validated (s : State) : s.finish.rep.status.validated = s.rep.status.validated := rfl
@[simp] theorem State.finish_frameOk (s : State) : s.finish.rep.status.frameOk = s.rep.status.frameOk := rfl
@[simp] theorem State.finish_htValid (s : State) : s.finish.rep.status.htValid = s.rep.status.htValid := rfl
@[simp] theorem State.finish_tempNeg (s : State) : s.finish.rep.status.tempNeg = s.rep.status.tempNeg := rfl
@[simp] theorem State.finish_necFail0 (s : State) : s.finish.rep.status.necFail0 = s.rep.status.necFail0 := rfl
@[simp] theorem State.finish_necFail1 (s : State) : s.finish.rep.status.necFail1 = s.rep.status.necFail1 := rfl
@[simp] theorem State.finish_cmdErr (s : State) : s.finish.rep.status.cmdErr = s.rep.status.cmdErr := rfl
@[simp] theorem State.finish_pending (s : State) : s.finish.pending = s.pending := rfl
@[simp] theorem State.finish_rdata (s : State) : s.finish.rdata = s.rdata := rfl
@[simp] theorem State.finish_resets (s : State) : s.finish.resets = s.resets := rfl

/-! ### clearErr -/

@[simp] theorem State.clearErr_params (s : State) : s.clearErr.params = s.params := rfl
@[simp] theorem State.clearErr_cfg (s : State) : s.clearErr.cfg = s.cfg := rfl
@[simp] theorem State.clearErr_inp (s : State) : s.clearErr.inp = s.inp := rfl
@[simp] theorem State.clearErr_work (s : State) : s.clearErr.work = s.work := rfl
@[simp] theorem State.clearErr_out (s : State) : s.clearErr.out = s.out := rfl
@[simp] theorem State.clearErr_rep_errIndex (s : State) : s.clearErr.rep.errIndex = -1#32 := rfl
@[simp] theorem State.clearErr_rep_bitErrCount (s : State) : s.clearErr.rep.bitErrCount = s.rep.bitErrCount := rfl
@[simp] theorem State.clearErr_rep_bitErrFirst (s : State) : s.clearErr.rep.bitErrFirst = s.rep.bitErrFirst := rfl
@[simp] theorem State.clearErr_rep_skipCount (s : State) : s.clearErr.rep.skipCount = s.rep.skipCount := rfl
@[simp] theorem State.clearErr_rep_clsResult (s : State) : s.clearErr.rep.clsResult = s.rep.clsResult := rfl
@[simp] theorem State.clearErr_done (s : State) : s.clearErr.rep.status.done = s.rep.status.done := rfl
@[simp] theorem State.clearErr_errKind (s : State) : s.clearErr.rep.status.errKind = .noError := rfl
@[simp] theorem State.clearErr_errUnit (s : State) : s.clearErr.rep.status.errUnit = .noUnit := rfl
@[simp] theorem State.clearErr_errHalf (s : State) : s.clearErr.rep.status.errHalf = .first := rfl
@[simp] theorem State.clearErr_skipped (s : State) : s.clearErr.rep.status.skipped = false := rfl
@[simp] theorem State.clearErr_chk (s : State) : s.clearErr.rep.status.chk = s.rep.status.chk := rfl
@[simp] theorem State.clearErr_validated (s : State) : s.clearErr.rep.status.validated = s.rep.status.validated := rfl
@[simp] theorem State.clearErr_frameOk (s : State) : s.clearErr.rep.status.frameOk = s.rep.status.frameOk := rfl
@[simp] theorem State.clearErr_htValid (s : State) : s.clearErr.rep.status.htValid = s.rep.status.htValid := rfl
@[simp] theorem State.clearErr_tempNeg (s : State) : s.clearErr.rep.status.tempNeg = s.rep.status.tempNeg := rfl
@[simp] theorem State.clearErr_necFail0 (s : State) : s.clearErr.rep.status.necFail0 = s.rep.status.necFail0 := rfl
@[simp] theorem State.clearErr_necFail1 (s : State) : s.clearErr.rep.status.necFail1 = s.rep.status.necFail1 := rfl
@[simp] theorem State.clearErr_cmdErr (s : State) : s.clearErr.rep.status.cmdErr = s.rep.status.cmdErr := rfl
@[simp] theorem State.clearErr_pending (s : State) : s.clearErr.pending = s.pending := rfl
@[simp] theorem State.clearErr_rdata (s : State) : s.clearErr.rdata = s.rdata := rfl
@[simp] theorem State.clearErr_resets (s : State) : s.clearErr.resets = s.resets := rfl

/-! ### clearValidation -/

@[simp] theorem State.clearValidation_params (s : State) : s.clearValidation.params = s.params := rfl
@[simp] theorem State.clearValidation_cfg (s : State) : s.clearValidation.cfg = s.cfg := rfl
@[simp] theorem State.clearValidation_inp (s : State) : s.clearValidation.inp = s.inp := rfl
@[simp] theorem State.clearValidation_work (s : State) : s.clearValidation.work = s.work := rfl
@[simp] theorem State.clearValidation_out_bitCount (s : State) : s.clearValidation.out.bitCount = s.out.bitCount := rfl
@[simp] theorem State.clearValidation_out_frame (s : State) : s.clearValidation.out.frame = s.out.frame := rfl
@[simp] theorem State.clearValidation_out_humX10 (s : State) : s.clearValidation.out.humX10 = 0#32 := rfl
@[simp] theorem State.clearValidation_out_tempX10 (s : State) : s.clearValidation.out.tempX10 = 0#32 := rfl
@[simp] theorem State.clearValidation_rep_errIndex (s : State) : s.clearValidation.rep.errIndex = s.rep.errIndex := rfl
@[simp] theorem State.clearValidation_rep_bitErrCount (s : State) : s.clearValidation.rep.bitErrCount = s.rep.bitErrCount := rfl
@[simp] theorem State.clearValidation_rep_bitErrFirst (s : State) : s.clearValidation.rep.bitErrFirst = s.rep.bitErrFirst := rfl
@[simp] theorem State.clearValidation_rep_skipCount (s : State) : s.clearValidation.rep.skipCount = s.rep.skipCount := rfl
@[simp] theorem State.clearValidation_rep_clsResult (s : State) : s.clearValidation.rep.clsResult = s.rep.clsResult := rfl
@[simp] theorem State.clearValidation_done (s : State) : s.clearValidation.rep.status.done = s.rep.status.done := rfl
@[simp] theorem State.clearValidation_errKind (s : State) : s.clearValidation.rep.status.errKind = s.rep.status.errKind := rfl
@[simp] theorem State.clearValidation_errUnit (s : State) : s.clearValidation.rep.status.errUnit = s.rep.status.errUnit := rfl
@[simp] theorem State.clearValidation_errHalf (s : State) : s.clearValidation.rep.status.errHalf = s.rep.status.errHalf := rfl
@[simp] theorem State.clearValidation_skipped (s : State) : s.clearValidation.rep.status.skipped = s.rep.status.skipped := rfl
@[simp] theorem State.clearValidation_chk (s : State) : s.clearValidation.rep.status.chk = .notRun := rfl
@[simp] theorem State.clearValidation_validated (s : State) : s.clearValidation.rep.status.validated = false := rfl
@[simp] theorem State.clearValidation_frameOk (s : State) : s.clearValidation.rep.status.frameOk = false := rfl
@[simp] theorem State.clearValidation_htValid (s : State) : s.clearValidation.rep.status.htValid = false := rfl
@[simp] theorem State.clearValidation_tempNeg (s : State) : s.clearValidation.rep.status.tempNeg = false := rfl
@[simp] theorem State.clearValidation_necFail0 (s : State) : s.clearValidation.rep.status.necFail0 = false := rfl
@[simp] theorem State.clearValidation_necFail1 (s : State) : s.clearValidation.rep.status.necFail1 = false := rfl
@[simp] theorem State.clearValidation_cmdErr (s : State) : s.clearValidation.rep.status.cmdErr = s.rep.status.cmdErr := rfl
@[simp] theorem State.clearValidation_pending (s : State) : s.clearValidation.pending = s.pending := rfl
@[simp] theorem State.clearValidation_rdata (s : State) : s.clearValidation.rdata = s.rdata := rfl
@[simp] theorem State.clearValidation_resets (s : State) : s.clearValidation.resets = s.resets := rfl

/-! ### clearFrame -/

@[simp] theorem State.clearFrame_params (s : State) : s.clearFrame.params = s.params := rfl
@[simp] theorem State.clearFrame_cfg (s : State) : s.clearFrame.cfg = s.cfg := rfl
@[simp] theorem State.clearFrame_inp (s : State) : s.clearFrame.inp = s.inp := rfl
@[simp] theorem State.clearFrame_work (s : State) : s.clearFrame.work = s.work := rfl
@[simp] theorem State.clearFrame_out_bitCount (s : State) : s.clearFrame.out.bitCount = 0#32 := rfl
@[simp] theorem State.clearFrame_out_frame (s : State) : s.clearFrame.out.frame = s.out.frame.map fun _ => 0#8 := rfl
@[simp] theorem State.clearFrame_out_humX10 (s : State) : s.clearFrame.out.humX10 = 0#32 := rfl
@[simp] theorem State.clearFrame_out_tempX10 (s : State) : s.clearFrame.out.tempX10 = 0#32 := rfl
@[simp] theorem State.clearFrame_rep_errIndex (s : State) : s.clearFrame.rep.errIndex = s.rep.errIndex := rfl
@[simp] theorem State.clearFrame_rep_bitErrCount (s : State) : s.clearFrame.rep.bitErrCount = 0#32 := rfl
@[simp] theorem State.clearFrame_rep_bitErrFirst (s : State) : s.clearFrame.rep.bitErrFirst = -1#32 := rfl
@[simp] theorem State.clearFrame_rep_skipCount (s : State) : s.clearFrame.rep.skipCount = s.rep.skipCount := rfl
@[simp] theorem State.clearFrame_rep_clsResult (s : State) : s.clearFrame.rep.clsResult = s.rep.clsResult := rfl
@[simp] theorem State.clearFrame_done (s : State) : s.clearFrame.rep.status.done = s.rep.status.done := rfl
@[simp] theorem State.clearFrame_errKind (s : State) : s.clearFrame.rep.status.errKind = s.rep.status.errKind := rfl
@[simp] theorem State.clearFrame_errUnit (s : State) : s.clearFrame.rep.status.errUnit = s.rep.status.errUnit := rfl
@[simp] theorem State.clearFrame_errHalf (s : State) : s.clearFrame.rep.status.errHalf = s.rep.status.errHalf := rfl
@[simp] theorem State.clearFrame_skipped (s : State) : s.clearFrame.rep.status.skipped = s.rep.status.skipped := rfl
@[simp] theorem State.clearFrame_chk (s : State) : s.clearFrame.rep.status.chk = .notRun := rfl
@[simp] theorem State.clearFrame_validated (s : State) : s.clearFrame.rep.status.validated = false := rfl
@[simp] theorem State.clearFrame_frameOk (s : State) : s.clearFrame.rep.status.frameOk = false := rfl
@[simp] theorem State.clearFrame_htValid (s : State) : s.clearFrame.rep.status.htValid = false := rfl
@[simp] theorem State.clearFrame_tempNeg (s : State) : s.clearFrame.rep.status.tempNeg = false := rfl
@[simp] theorem State.clearFrame_necFail0 (s : State) : s.clearFrame.rep.status.necFail0 = false := rfl
@[simp] theorem State.clearFrame_necFail1 (s : State) : s.clearFrame.rep.status.necFail1 = false := rfl
@[simp] theorem State.clearFrame_cmdErr (s : State) : s.clearFrame.rep.status.cmdErr = s.rep.status.cmdErr := rfl
@[simp] theorem State.clearFrame_pending (s : State) : s.clearFrame.pending = s.pending := rfl
@[simp] theorem State.clearFrame_rdata (s : State) : s.clearFrame.rdata = s.rdata := rfl
@[simp] theorem State.clearFrame_resets (s : State) : s.clearFrame.resets = s.resets := rfl

/-! ### clearPayload -/

@[simp] theorem State.clearPayload_params (s : State) : s.clearPayload.params = s.params := rfl
@[simp] theorem State.clearPayload_cfg (s : State) : s.clearPayload.cfg = s.cfg := rfl
@[simp] theorem State.clearPayload_inp (s : State) : s.clearPayload.inp = s.inp := rfl
@[simp] theorem State.clearPayload_work_unitCount (s : State) : s.clearPayload.work.unitCount = s.work.unitCount := rfl
@[simp] theorem State.clearPayload_work_payStart (s : State) : s.clearPayload.work.payStart = 0#32 := rfl
@[simp] theorem State.clearPayload_work_payCount (s : State) : s.clearPayload.work.payCount = 0#32 := rfl
@[simp] theorem State.clearPayload_work_payPad (s : State) : s.clearPayload.work.payPad = Pad.zero := rfl
@[simp] theorem State.clearPayload_work_units (s : State) : s.clearPayload.work.units = s.work.units := rfl
@[simp] theorem State.clearPayload_out_bitCount (s : State) : s.clearPayload.out.bitCount = 0#32 := rfl
@[simp] theorem State.clearPayload_out_frame (s : State) : s.clearPayload.out.frame = s.out.frame.map fun _ => 0#8 := rfl
@[simp] theorem State.clearPayload_out_humX10 (s : State) : s.clearPayload.out.humX10 = 0#32 := rfl
@[simp] theorem State.clearPayload_out_tempX10 (s : State) : s.clearPayload.out.tempX10 = 0#32 := rfl
@[simp] theorem State.clearPayload_rep_errIndex (s : State) : s.clearPayload.rep.errIndex = s.rep.errIndex := rfl
@[simp] theorem State.clearPayload_rep_bitErrCount (s : State) : s.clearPayload.rep.bitErrCount = 0#32 := rfl
@[simp] theorem State.clearPayload_rep_bitErrFirst (s : State) : s.clearPayload.rep.bitErrFirst = -1#32 := rfl
@[simp] theorem State.clearPayload_rep_skipCount (s : State) : s.clearPayload.rep.skipCount = s.rep.skipCount := rfl
@[simp] theorem State.clearPayload_rep_clsResult (s : State) : s.clearPayload.rep.clsResult = s.rep.clsResult := rfl
@[simp] theorem State.clearPayload_done (s : State) : s.clearPayload.rep.status.done = s.rep.status.done := rfl
@[simp] theorem State.clearPayload_errKind (s : State) : s.clearPayload.rep.status.errKind = s.rep.status.errKind := rfl
@[simp] theorem State.clearPayload_errUnit (s : State) : s.clearPayload.rep.status.errUnit = s.rep.status.errUnit := rfl
@[simp] theorem State.clearPayload_errHalf (s : State) : s.clearPayload.rep.status.errHalf = s.rep.status.errHalf := rfl
@[simp] theorem State.clearPayload_skipped (s : State) : s.clearPayload.rep.status.skipped = s.rep.status.skipped := rfl
@[simp] theorem State.clearPayload_chk (s : State) : s.clearPayload.rep.status.chk = .notRun := rfl
@[simp] theorem State.clearPayload_validated (s : State) : s.clearPayload.rep.status.validated = false := rfl
@[simp] theorem State.clearPayload_frameOk (s : State) : s.clearPayload.rep.status.frameOk = false := rfl
@[simp] theorem State.clearPayload_htValid (s : State) : s.clearPayload.rep.status.htValid = false := rfl
@[simp] theorem State.clearPayload_tempNeg (s : State) : s.clearPayload.rep.status.tempNeg = false := rfl
@[simp] theorem State.clearPayload_necFail0 (s : State) : s.clearPayload.rep.status.necFail0 = false := rfl
@[simp] theorem State.clearPayload_necFail1 (s : State) : s.clearPayload.rep.status.necFail1 = false := rfl
@[simp] theorem State.clearPayload_cmdErr (s : State) : s.clearPayload.rep.status.cmdErr = s.rep.status.cmdErr := rfl
@[simp] theorem State.clearPayload_pending (s : State) : s.clearPayload.pending = s.pending := rfl
@[simp] theorem State.clearPayload_rdata (s : State) : s.clearPayload.rdata = s.rdata := rfl
@[simp] theorem State.clearPayload_resets (s : State) : s.clearPayload.resets = s.resets := rfl

/-! ### clearUnits -/

@[simp] theorem State.clearUnits_params (s : State) : s.clearUnits.params = s.params := rfl
@[simp] theorem State.clearUnits_cfg (s : State) : s.clearUnits.cfg = s.cfg := rfl
@[simp] theorem State.clearUnits_inp (s : State) : s.clearUnits.inp = s.inp := rfl
@[simp] theorem State.clearUnits_work_unitCount (s : State) : s.clearUnits.work.unitCount = 0#32 := rfl
@[simp] theorem State.clearUnits_work_payStart (s : State) : s.clearUnits.work.payStart = 0#32 := rfl
@[simp] theorem State.clearUnits_work_payCount (s : State) : s.clearUnits.work.payCount = 0#32 := rfl
@[simp] theorem State.clearUnits_work_payPad (s : State) : s.clearUnits.work.payPad = Pad.zero := rfl
@[simp] theorem State.clearUnits_work_units (s : State) : s.clearUnits.work.units = s.work.units := rfl
@[simp] theorem State.clearUnits_out_bitCount (s : State) : s.clearUnits.out.bitCount = 0#32 := rfl
@[simp] theorem State.clearUnits_out_frame (s : State) : s.clearUnits.out.frame = s.out.frame.map fun _ => 0#8 := rfl
@[simp] theorem State.clearUnits_out_humX10 (s : State) : s.clearUnits.out.humX10 = 0#32 := rfl
@[simp] theorem State.clearUnits_out_tempX10 (s : State) : s.clearUnits.out.tempX10 = 0#32 := rfl
@[simp] theorem State.clearUnits_rep_errIndex (s : State) : s.clearUnits.rep.errIndex = s.rep.errIndex := rfl
@[simp] theorem State.clearUnits_rep_bitErrCount (s : State) : s.clearUnits.rep.bitErrCount = 0#32 := rfl
@[simp] theorem State.clearUnits_rep_bitErrFirst (s : State) : s.clearUnits.rep.bitErrFirst = -1#32 := rfl
@[simp] theorem State.clearUnits_rep_skipCount (s : State) : s.clearUnits.rep.skipCount = 0#32 := rfl
@[simp] theorem State.clearUnits_rep_clsResult (s : State) : s.clearUnits.rep.clsResult = s.rep.clsResult := rfl
@[simp] theorem State.clearUnits_done (s : State) : s.clearUnits.rep.status.done = s.rep.status.done := rfl
@[simp] theorem State.clearUnits_errKind (s : State) : s.clearUnits.rep.status.errKind = s.rep.status.errKind := rfl
@[simp] theorem State.clearUnits_errUnit (s : State) : s.clearUnits.rep.status.errUnit = s.rep.status.errUnit := rfl
@[simp] theorem State.clearUnits_errHalf (s : State) : s.clearUnits.rep.status.errHalf = s.rep.status.errHalf := rfl
@[simp] theorem State.clearUnits_skipped (s : State) : s.clearUnits.rep.status.skipped = s.rep.status.skipped := rfl
@[simp] theorem State.clearUnits_chk (s : State) : s.clearUnits.rep.status.chk = .notRun := rfl
@[simp] theorem State.clearUnits_validated (s : State) : s.clearUnits.rep.status.validated = false := rfl
@[simp] theorem State.clearUnits_frameOk (s : State) : s.clearUnits.rep.status.frameOk = false := rfl
@[simp] theorem State.clearUnits_htValid (s : State) : s.clearUnits.rep.status.htValid = false := rfl
@[simp] theorem State.clearUnits_tempNeg (s : State) : s.clearUnits.rep.status.tempNeg = false := rfl
@[simp] theorem State.clearUnits_necFail0 (s : State) : s.clearUnits.rep.status.necFail0 = false := rfl
@[simp] theorem State.clearUnits_necFail1 (s : State) : s.clearUnits.rep.status.necFail1 = false := rfl
@[simp] theorem State.clearUnits_cmdErr (s : State) : s.clearUnits.rep.status.cmdErr = s.rep.status.cmdErr := rfl
@[simp] theorem State.clearUnits_pending (s : State) : s.clearUnits.pending = s.pending := rfl
@[simp] theorem State.clearUnits_rdata (s : State) : s.clearUnits.rdata = s.rdata := rfl
@[simp] theorem State.clearUnits_resets (s : State) : s.clearUnits.resets = s.resets := rfl

/-! ### clearPipeline -/

@[simp] theorem State.clearPipeline_params (s : State) : s.clearPipeline.params = s.params := rfl
@[simp] theorem State.clearPipeline_cfg (s : State) : s.clearPipeline.cfg = s.cfg := rfl
@[simp] theorem State.clearPipeline_inp (s : State) : s.clearPipeline.inp = s.inp := rfl
@[simp] theorem State.clearPipeline_work_unitCount (s : State) : s.clearPipeline.work.unitCount = 0#32 := rfl
@[simp] theorem State.clearPipeline_work_payStart (s : State) : s.clearPipeline.work.payStart = 0#32 := rfl
@[simp] theorem State.clearPipeline_work_payCount (s : State) : s.clearPipeline.work.payCount = 0#32 := rfl
@[simp] theorem State.clearPipeline_work_payPad (s : State) : s.clearPipeline.work.payPad = Pad.zero := rfl
@[simp] theorem State.clearPipeline_work_units (s : State) : s.clearPipeline.work.units = s.work.units := rfl
@[simp] theorem State.clearPipeline_out_bitCount (s : State) : s.clearPipeline.out.bitCount = 0#32 := rfl
@[simp] theorem State.clearPipeline_out_frame (s : State) : s.clearPipeline.out.frame = s.out.frame.map fun _ => 0#8 := rfl
@[simp] theorem State.clearPipeline_out_humX10 (s : State) : s.clearPipeline.out.humX10 = 0#32 := rfl
@[simp] theorem State.clearPipeline_out_tempX10 (s : State) : s.clearPipeline.out.tempX10 = 0#32 := rfl
@[simp] theorem State.clearPipeline_rep_errIndex (s : State) : s.clearPipeline.rep.errIndex = -1#32 := rfl
@[simp] theorem State.clearPipeline_rep_bitErrCount (s : State) : s.clearPipeline.rep.bitErrCount = 0#32 := rfl
@[simp] theorem State.clearPipeline_rep_bitErrFirst (s : State) : s.clearPipeline.rep.bitErrFirst = -1#32 := rfl
@[simp] theorem State.clearPipeline_rep_skipCount (s : State) : s.clearPipeline.rep.skipCount = 0#32 := rfl
@[simp] theorem State.clearPipeline_rep_clsResult (s : State) : s.clearPipeline.rep.clsResult = s.rep.clsResult := rfl
@[simp] theorem State.clearPipeline_done (s : State) : s.clearPipeline.rep.status.done = false := rfl
@[simp] theorem State.clearPipeline_errKind (s : State) : s.clearPipeline.rep.status.errKind = .noError := rfl
@[simp] theorem State.clearPipeline_errUnit (s : State) : s.clearPipeline.rep.status.errUnit = .noUnit := rfl
@[simp] theorem State.clearPipeline_errHalf (s : State) : s.clearPipeline.rep.status.errHalf = .first := rfl
@[simp] theorem State.clearPipeline_skipped (s : State) : s.clearPipeline.rep.status.skipped = false := rfl
@[simp] theorem State.clearPipeline_chk (s : State) : s.clearPipeline.rep.status.chk = .notRun := rfl
@[simp] theorem State.clearPipeline_validated (s : State) : s.clearPipeline.rep.status.validated = false := rfl
@[simp] theorem State.clearPipeline_frameOk (s : State) : s.clearPipeline.rep.status.frameOk = false := rfl
@[simp] theorem State.clearPipeline_htValid (s : State) : s.clearPipeline.rep.status.htValid = false := rfl
@[simp] theorem State.clearPipeline_tempNeg (s : State) : s.clearPipeline.rep.status.tempNeg = false := rfl
@[simp] theorem State.clearPipeline_necFail0 (s : State) : s.clearPipeline.rep.status.necFail0 = false := rfl
@[simp] theorem State.clearPipeline_necFail1 (s : State) : s.clearPipeline.rep.status.necFail1 = false := rfl
@[simp] theorem State.clearPipeline_cmdErr (s : State) : s.clearPipeline.rep.status.cmdErr = s.rep.status.cmdErr := rfl
@[simp] theorem State.clearPipeline_pending (s : State) : s.clearPipeline.pending = s.pending := rfl
@[simp] theorem State.clearPipeline_rdata (s : State) : s.clearPipeline.rdata = s.rdata := rfl
@[simp] theorem State.clearPipeline_resets (s : State) : s.clearPipeline.resets = s.resets := rfl

/-! ### raise -/

@[simp] theorem State.raise_params (e : DecodeError) (s : State) : (s.raise e).params = s.params := rfl
@[simp] theorem State.raise_cfg (e : DecodeError) (s : State) : (s.raise e).cfg = s.cfg := rfl
@[simp] theorem State.raise_inp (e : DecodeError) (s : State) : (s.raise e).inp = s.inp := rfl
@[simp] theorem State.raise_work (e : DecodeError) (s : State) : (s.raise e).work = s.work := rfl
@[simp] theorem State.raise_out (e : DecodeError) (s : State) : (s.raise e).out = s.out := rfl
@[simp] theorem State.raise_rep_errIndex (e : DecodeError) (s : State) : (s.raise e).rep.errIndex = e.index := rfl
@[simp] theorem State.raise_rep_bitErrCount (e : DecodeError) (s : State) : (s.raise e).rep.bitErrCount = s.rep.bitErrCount := rfl
@[simp] theorem State.raise_rep_bitErrFirst (e : DecodeError) (s : State) : (s.raise e).rep.bitErrFirst = s.rep.bitErrFirst := rfl
@[simp] theorem State.raise_rep_skipCount (e : DecodeError) (s : State) : (s.raise e).rep.skipCount = s.rep.skipCount := rfl
@[simp] theorem State.raise_rep_clsResult (e : DecodeError) (s : State) : (s.raise e).rep.clsResult = s.rep.clsResult := rfl
@[simp] theorem State.raise_done (e : DecodeError) (s : State) : (s.raise e).rep.status.done = s.rep.status.done := rfl
@[simp] theorem State.raise_errKind (e : DecodeError) (s : State) : (s.raise e).rep.status.errKind = e.kind := rfl
@[simp] theorem State.raise_errUnit (e : DecodeError) (s : State) : (s.raise e).rep.status.errUnit = e.unit := rfl
@[simp] theorem State.raise_errHalf (e : DecodeError) (s : State) : (s.raise e).rep.status.errHalf = e.half := rfl
@[simp] theorem State.raise_skipped (e : DecodeError) (s : State) : (s.raise e).rep.status.skipped = s.rep.status.skipped := rfl
@[simp] theorem State.raise_chk (e : DecodeError) (s : State) : (s.raise e).rep.status.chk = s.rep.status.chk := rfl
@[simp] theorem State.raise_validated (e : DecodeError) (s : State) : (s.raise e).rep.status.validated = s.rep.status.validated := rfl
@[simp] theorem State.raise_frameOk (e : DecodeError) (s : State) : (s.raise e).rep.status.frameOk = s.rep.status.frameOk := rfl
@[simp] theorem State.raise_htValid (e : DecodeError) (s : State) : (s.raise e).rep.status.htValid = s.rep.status.htValid := rfl
@[simp] theorem State.raise_tempNeg (e : DecodeError) (s : State) : (s.raise e).rep.status.tempNeg = s.rep.status.tempNeg := rfl
@[simp] theorem State.raise_necFail0 (e : DecodeError) (s : State) : (s.raise e).rep.status.necFail0 = s.rep.status.necFail0 := rfl
@[simp] theorem State.raise_necFail1 (e : DecodeError) (s : State) : (s.raise e).rep.status.necFail1 = s.rep.status.necFail1 := rfl
@[simp] theorem State.raise_cmdErr (e : DecodeError) (s : State) : (s.raise e).rep.status.cmdErr = s.rep.status.cmdErr := rfl
@[simp] theorem State.raise_pending (e : DecodeError) (s : State) : (s.raise e).pending = s.pending := rfl
@[simp] theorem State.raise_rdata (e : DecodeError) (s : State) : (s.raise e).rdata = s.rdata := rfl
@[simp] theorem State.raise_resets (e : DecodeError) (s : State) : (s.raise e).resets = s.resets := rfl

/-! ### logBitError -/

@[simp] theorem State.logBitError_params (k : Nat) (s : State) : (s.logBitError k).params = s.params := rfl
@[simp] theorem State.logBitError_cfg (k : Nat) (s : State) : (s.logBitError k).cfg = s.cfg := rfl
@[simp] theorem State.logBitError_inp (k : Nat) (s : State) : (s.logBitError k).inp = s.inp := rfl
@[simp] theorem State.logBitError_work (k : Nat) (s : State) : (s.logBitError k).work = s.work := rfl
@[simp] theorem State.logBitError_out (k : Nat) (s : State) : (s.logBitError k).out = s.out := rfl
@[simp] theorem State.logBitError_rep_errIndex (k : Nat) (s : State) : (s.logBitError k).rep.errIndex = s.rep.errIndex := rfl
@[simp] theorem State.logBitError_rep_bitErrCount (k : Nat) (s : State) : (s.logBitError k).rep.bitErrCount = s.rep.bitErrCount + 1#32 := rfl
@[simp] theorem State.logBitError_rep_bitErrFirst (k : Nat) (s : State) : (s.logBitError k).rep.bitErrFirst = (if s.rep.bitErrCount = 0#32 then BitVec.ofNat 32 k else s.rep.bitErrFirst) := rfl
@[simp] theorem State.logBitError_rep_skipCount (k : Nat) (s : State) : (s.logBitError k).rep.skipCount = s.rep.skipCount := rfl
@[simp] theorem State.logBitError_rep_clsResult (k : Nat) (s : State) : (s.logBitError k).rep.clsResult = s.rep.clsResult := rfl
@[simp] theorem State.logBitError_rep_status (k : Nat) (s : State) : (s.logBitError k).rep.status = s.rep.status := rfl
@[simp] theorem State.logBitError_pending (k : Nat) (s : State) : (s.logBitError k).pending = s.pending := rfl
@[simp] theorem State.logBitError_rdata (k : Nat) (s : State) : (s.logBitError k).rdata = s.rdata := rfl
@[simp] theorem State.logBitError_resets (k : Nat) (s : State) : (s.logBitError k).resets = s.resets := rfl

/-! ### emitUnit -/

@[simp] theorem State.emitUnit_params (u : UnitPulse) (s : State) : (s.emitUnit u).params = s.params := rfl
@[simp] theorem State.emitUnit_cfg (u : UnitPulse) (s : State) : (s.emitUnit u).cfg = s.cfg := rfl
@[simp] theorem State.emitUnit_inp (u : UnitPulse) (s : State) : (s.emitUnit u).inp = s.inp := rfl
@[simp] theorem State.emitUnit_work_unitCount (u : UnitPulse) (s : State) : (s.emitUnit u).work.unitCount = s.work.unitCount + 1#32 := rfl
@[simp] theorem State.emitUnit_work_payStart (u : UnitPulse) (s : State) : (s.emitUnit u).work.payStart = s.work.payStart := rfl
@[simp] theorem State.emitUnit_work_payCount (u : UnitPulse) (s : State) : (s.emitUnit u).work.payCount = s.work.payCount := rfl
@[simp] theorem State.emitUnit_work_payPad (u : UnitPulse) (s : State) : (s.emitUnit u).work.payPad = s.work.payPad := rfl
@[simp] theorem State.emitUnit_work_units (u : UnitPulse) (s : State) : (s.emitUnit u).work.units = s.work.units.set s.work.unitCount.toNat u := rfl
@[simp] theorem State.emitUnit_out (u : UnitPulse) (s : State) : (s.emitUnit u).out = s.out := rfl
@[simp] theorem State.emitUnit_rep (u : UnitPulse) (s : State) : (s.emitUnit u).rep = s.rep := rfl
@[simp] theorem State.emitUnit_pending (u : UnitPulse) (s : State) : (s.emitUnit u).pending = s.pending := rfl
@[simp] theorem State.emitUnit_rdata (u : UnitPulse) (s : State) : (s.emitUnit u).rdata = s.rdata := rfl
@[simp] theorem State.emitUnit_resets (u : UnitPulse) (s : State) : (s.emitUnit u).resets = s.resets := rfl

/-! ### countSkip -/

@[simp] theorem State.countSkip_params (s : State) : s.countSkip.params = s.params := rfl
@[simp] theorem State.countSkip_cfg (s : State) : s.countSkip.cfg = s.cfg := rfl
@[simp] theorem State.countSkip_inp (s : State) : s.countSkip.inp = s.inp := rfl
@[simp] theorem State.countSkip_work (s : State) : s.countSkip.work = s.work := rfl
@[simp] theorem State.countSkip_out (s : State) : s.countSkip.out = s.out := rfl
@[simp] theorem State.countSkip_rep_errIndex (s : State) : s.countSkip.rep.errIndex = s.rep.errIndex := rfl
@[simp] theorem State.countSkip_rep_bitErrCount (s : State) : s.countSkip.rep.bitErrCount = s.rep.bitErrCount := rfl
@[simp] theorem State.countSkip_rep_bitErrFirst (s : State) : s.countSkip.rep.bitErrFirst = s.rep.bitErrFirst := rfl
@[simp] theorem State.countSkip_rep_skipCount (s : State) : s.countSkip.rep.skipCount = s.rep.skipCount + 1#32 := rfl
@[simp] theorem State.countSkip_rep_clsResult (s : State) : s.countSkip.rep.clsResult = s.rep.clsResult := rfl
@[simp] theorem State.countSkip_rep_status (s : State) : s.countSkip.rep.status = s.rep.status := rfl
@[simp] theorem State.countSkip_pending (s : State) : s.countSkip.pending = s.pending := rfl
@[simp] theorem State.countSkip_rdata (s : State) : s.countSkip.rdata = s.rdata := rfl
@[simp] theorem State.countSkip_resets (s : State) : s.countSkip.resets = s.resets := rfl

/-! ### putBit -/

@[simp] theorem State.putBit_params (order : BitOrder) (k : Nat) (b : Bool) (s : State) : (s.putBit order k b).params = s.params := rfl
@[simp] theorem State.putBit_cfg (order : BitOrder) (k : Nat) (b : Bool) (s : State) : (s.putBit order k b).cfg = s.cfg := rfl
@[simp] theorem State.putBit_inp (order : BitOrder) (k : Nat) (b : Bool) (s : State) : (s.putBit order k b).inp = s.inp := rfl
@[simp] theorem State.putBit_work (order : BitOrder) (k : Nat) (b : Bool) (s : State) : (s.putBit order k b).work = s.work := rfl
@[simp] theorem State.putBit_out_bitCount (order : BitOrder) (k : Nat) (b : Bool) (s : State) : (s.putBit order k b).out.bitCount = s.out.bitCount := rfl
@[simp] theorem State.putBit_out_frame (order : BitOrder) (k : Nat) (b : Bool) (s : State) : (s.putBit order k b).out.frame = s.out.frame.set (k / 8) (setByteBit (s.frameAt (k / 8)) (bitPosition order k) b) := rfl
@[simp] theorem State.putBit_out_humX10 (order : BitOrder) (k : Nat) (b : Bool) (s : State) : (s.putBit order k b).out.humX10 = s.out.humX10 := rfl
@[simp] theorem State.putBit_out_tempX10 (order : BitOrder) (k : Nat) (b : Bool) (s : State) : (s.putBit order k b).out.tempX10 = s.out.tempX10 := rfl
@[simp] theorem State.putBit_rep (order : BitOrder) (k : Nat) (b : Bool) (s : State) : (s.putBit order k b).rep = s.rep := rfl
@[simp] theorem State.putBit_pending (order : BitOrder) (k : Nat) (b : Bool) (s : State) : (s.putBit order k b).pending = s.pending := rfl
@[simp] theorem State.putBit_rdata (order : BitOrder) (k : Nat) (b : Bool) (s : State) : (s.putBit order k b).rdata = s.rdata := rfl
@[simp] theorem State.putBit_resets (order : BitOrder) (k : Nat) (b : Bool) (s : State) : (s.putBit order k b).resets = s.resets := rfl

/-! ### writeReadings -/

@[simp] theorem State.writeReadings_params (s : State) : s.writeReadings.params = s.params := rfl
@[simp] theorem State.writeReadings_cfg (s : State) : s.writeReadings.cfg = s.cfg := rfl
@[simp] theorem State.writeReadings_inp (s : State) : s.writeReadings.inp = s.inp := rfl
@[simp] theorem State.writeReadings_work (s : State) : s.writeReadings.work = s.work := rfl
@[simp] theorem State.writeReadings_out_bitCount (s : State) : s.writeReadings.out.bitCount = s.out.bitCount := rfl
@[simp] theorem State.writeReadings_out_frame (s : State) : s.writeReadings.out.frame = s.out.frame := rfl
@[simp] theorem State.writeReadings_out_humX10 (s : State) : s.writeReadings.out.humX10 = humidity (s.frameAt 0) (s.frameAt 1) := rfl
@[simp] theorem State.writeReadings_out_tempX10 (s : State) : s.writeReadings.out.tempX10 = temperature (s.frameAt 2) (s.frameAt 3) := rfl
@[simp] theorem State.writeReadings_rep_errIndex (s : State) : s.writeReadings.rep.errIndex = s.rep.errIndex := rfl
@[simp] theorem State.writeReadings_rep_bitErrCount (s : State) : s.writeReadings.rep.bitErrCount = s.rep.bitErrCount := rfl
@[simp] theorem State.writeReadings_rep_bitErrFirst (s : State) : s.writeReadings.rep.bitErrFirst = s.rep.bitErrFirst := rfl
@[simp] theorem State.writeReadings_rep_skipCount (s : State) : s.writeReadings.rep.skipCount = s.rep.skipCount := rfl
@[simp] theorem State.writeReadings_rep_clsResult (s : State) : s.writeReadings.rep.clsResult = s.rep.clsResult := rfl
@[simp] theorem State.writeReadings_done (s : State) : s.writeReadings.rep.status.done = s.rep.status.done := rfl
@[simp] theorem State.writeReadings_errKind (s : State) : s.writeReadings.rep.status.errKind = s.rep.status.errKind := rfl
@[simp] theorem State.writeReadings_errUnit (s : State) : s.writeReadings.rep.status.errUnit = s.rep.status.errUnit := rfl
@[simp] theorem State.writeReadings_errHalf (s : State) : s.writeReadings.rep.status.errHalf = s.rep.status.errHalf := rfl
@[simp] theorem State.writeReadings_skipped (s : State) : s.writeReadings.rep.status.skipped = s.rep.status.skipped := rfl
@[simp] theorem State.writeReadings_chk (s : State) : s.writeReadings.rep.status.chk = s.rep.status.chk := rfl
@[simp] theorem State.writeReadings_validated (s : State) : s.writeReadings.rep.status.validated = true := rfl
@[simp] theorem State.writeReadings_frameOk (s : State) : s.writeReadings.rep.status.frameOk = s.rep.status.frameOk := rfl
@[simp] theorem State.writeReadings_htValid (s : State) : s.writeReadings.rep.status.htValid = true := rfl
@[simp] theorem State.writeReadings_tempNeg (s : State) : s.writeReadings.rep.status.tempNeg = temperatureNegative (s.frameAt 2) := rfl
@[simp] theorem State.writeReadings_necFail0 (s : State) : s.writeReadings.rep.status.necFail0 = s.rep.status.necFail0 := rfl
@[simp] theorem State.writeReadings_necFail1 (s : State) : s.writeReadings.rep.status.necFail1 = s.rep.status.necFail1 := rfl
@[simp] theorem State.writeReadings_cmdErr (s : State) : s.writeReadings.rep.status.cmdErr = s.rep.status.cmdErr := rfl
@[simp] theorem State.writeReadings_pending (s : State) : s.writeReadings.pending = s.pending := rfl
@[simp] theorem State.writeReadings_rdata (s : State) : s.writeReadings.rdata = s.rdata := rfl
@[simp] theorem State.writeReadings_resets (s : State) : s.writeReadings.resets = s.resets := rfl

end Sys2Proof.Machine
end

