-- ==== Sys2Proof/Laws/Frame.lean ====
section
/-! SUPPORT. What placing bits does, said once: the frame bytes bit by bit, the bit error log, and
that nothing else changes. -/

namespace Sys2Proof.Machine

/-! ## One bit of one byte -/

theorem bitPosition_lt (order : BitOrder) (k : Nat) : bitPosition order k < 8 := by
  cases order <;> simp only [bitPosition] <;> omega

theorem setByteBit_getLsbD (byte : Byte) (pos : Nat) (b : Bool) (q : Nat) (hq : q < 8) :
    (setByteBit byte pos b).getLsbD q = if q = pos then b else byte.getLsbD q := by
  unfold setByteBit
  cases b <;> simp [hq]
  all_goals
    by_cases h : q = pos <;> simp [h]
    omega

/-! ## The frame as a list of bytes -/

/-- The frame part of `placeBits`. -/
def packBits (order : BitOrder) : List BitOutcome → Nat → List Byte → List Byte
  | [], _, f => f
  | o :: os, k, f =>
    packBits order os (k + 1) (f.set (k / 8) (setByteBit (f.getD (k / 8) 0#8) (bitPosition order k) o.bit))

@[simp] theorem packBits_length (order : BitOrder) (os : List BitOutcome) (k : Nat) (f : List Byte) :
    (packBits order os k f).length = f.length := by
  induction os generalizing k f with
  | nil => rfl
  | cons o os ih => simp [packBits, ih]

/-- Frame bit `k` of a list of bytes. -/
def bitOf (order : BitOrder) (f : List Byte) (k : Nat) : Bool :=
  (f.getD (k / 8) 0#8).getLsbD (bitPosition order k)

/-- The frame bit that claims speak of is the bit that `putBit` places. -/
theorem frameBit_eq (s : State) (order : BitOrder) (k : Nat) :
    s.frameBit order k = bitOf order s.out.frame k := by
  cases order <;> rfl

theorem bitPosition_inj {order : BitOrder} {j k : Nat} (h8 : j / 8 = k / 8)
    (hp : bitPosition order j = bitPosition order k) : j = k := by
  cases order <;> simp only [bitPosition] at hp <;> omega

/-- Setting frame bit `k` changes frame bit `k` and no other. -/
theorem bitOf_set (order : BitOrder) (f : List Byte) (k j : Nat) (b : Bool) (hk : k / 8 < f.length) :
    bitOf order (f.set (k / 8) (setByteBit (f.getD (k / 8) 0#8) (bitPosition order k) b)) j =
      if j = k then b else bitOf order f j := by
  unfold bitOf
  by_cases h8 : j / 8 = k / 8
  · rw [h8, List.getD_eq_getElem?_getD, List.getElem?_set_self hk, Option.getD_some,
      setByteBit_getLsbD _ _ _ _ (bitPosition_lt order j)]
    by_cases hj : j = k
    · simp [hj]
    · have : bitPosition order j ≠ bitPosition order k := fun h => hj (bitPosition_inj h8 h)
      simp [hj, this]
  · have hj : j ≠ k := fun h => h8 (by rw [h])
    rw [List.getD_eq_getElem?_getD, List.getElem?_set_ne (Ne.symm h8), ← List.getD_eq_getElem?_getD]
    simp [hj]

/-- Every frame bit after packing: the outcomes' bits in order, the others as they were. -/
theorem bitOf_packBits (order : BitOrder) (os : List BitOutcome) (k : Nat) (f : List Byte) (j : Nat)
    (hlen : k + os.length ≤ 8 * f.length) :
    bitOf order (packBits order os k f) j =
      if h : k ≤ j ∧ j < k + os.length then (os[j - k]'(by omega)).bit else bitOf order f j := by
  induction os generalizing k f with
  | nil =>
    simp only [packBits, List.length_nil, Nat.add_zero]
    rw [dif_neg (by omega)]
  | cons o os ih =>
    simp only [List.length_cons] at hlen ⊢
    rw [packBits, ih (k + 1) _ (by simp; omega), bitOf_set _ _ _ _ _ (by omega)]
    by_cases hj : j = k
    · subst hj
      simp
    · by_cases hr : k ≤ j ∧ j < k + (os.length + 1)
      · have h1 : k + 1 ≤ j ∧ j < k + 1 + os.length := by omega
        have hjk : j - k = (j - (k + 1)) + 1 := by omega
        simp only [h1, hr, and_self, dite_true]
        simp [hjk]
      · have h1 : ¬(k + 1 ≤ j ∧ j < k + 1 + os.length) := by omega
        rw [dif_neg h1, dif_neg hr, if_neg hj]

/-! ## The bit error log -/

/-- The log part of `placeBits`: BIT_ERR_COUNT and BIT_ERR_FIRST. -/
def logOf : List BitOutcome → Nat → Word × Word → Word × Word
  | [], _, l => l
  | o :: os, k, l =>
    logOf os (k + 1)
      (if o.logged then (l.1 + 1#32, if l.1 = 0#32 then BitVec.ofNat 32 k else l.2) else l)

/-- `placeBits` touches the frame and the bit error log and nothing else. -/
theorem placeBits_eq (order : BitOrder) (os : List BitOutcome) (k : Nat) (s : State) :
    State.placeBits order os k s =
      { s with
        out.frame := packBits order os k s.out.frame
        rep.bitErrCount := (logOf os k (s.rep.bitErrCount, s.rep.bitErrFirst)).1
        rep.bitErrFirst := (logOf os k (s.rep.bitErrCount, s.rep.bitErrFirst)).2 } := by
  induction os generalizing k s with
  | nil => rfl
  | cons o os ih =>
    rw [State.placeBits, ih]
    cases h : o.logged <;> simp [packBits, logOf, State.frameAt, State.putBit, State.logBitError, h]

/-- Once something is logged, BIT_ERR_FIRST stays and BIT_ERR_COUNT counts on. -/
theorem logOf_counting (os : List BitOutcome) (k c : Nat) (first : Word) (hc : 0 < c)
    (hb : c + os.length < 2 ^ 32) :
    logOf os k (BitVec.ofNat 32 c, first) =
      (BitVec.ofNat 32 (c + os.countP fun o => o.logged), first) := by
  induction os generalizing k c with
  | nil => simp [logOf]
  | cons o os ih =>
    simp only [List.length_cons] at hb
    have hne : BitVec.ofNat 32 c ≠ 0#32 := by
      intro h
      have := congrArg BitVec.toNat h
      simp at this
      omega
    cases ho : o.logged
    · simp [logOf, ho, ih _ c hc (by omega)]
    · have h1 : BitVec.ofNat 32 c + 1#32 = BitVec.ofNat 32 (c + 1) := by
        rw [BitVec.ofNat_add]
      simp only [logOf, ho, if_true, hne, if_false, h1, ih _ (c + 1) (by omega) (by omega)]
      simp [ho]
      congr 1
      omega

/-- The log of bits `k`, `k + 1`, ... from an empty log: how many errors, and the first of them. -/
theorem logOf_empty (os : List BitOutcome) (k : Nat) (hb : os.length < 2 ^ 32) :
    logOf os k (0#32, -1#32) =
      (BitVec.ofNat 32 (os.countP fun o => o.logged),
        (os.findIdx? fun o => o.logged).elim (-1#32) fun i => BitVec.ofNat 32 (k + i)) := by
  induction os generalizing k with
  | nil => simp [logOf]
  | cons o os ih =>
    simp only [List.length_cons] at hb
    cases ho : o.logged
    · rw [logOf, ho, if_neg Bool.false_ne_true, ih _ (by omega)]
      simp only [List.countP_cons, ho, List.findIdx?_cons, Bool.false_eq_true, if_false, Nat.add_zero]
      cases (os.findIdx? fun o => o.logged) with
      | none => simp
      | some i => simp [Nat.add_comm, Nat.add_left_comm]
    · have h1 : logOf (o :: os) k (0#32, -1#32) =
          logOf os (k + 1) (BitVec.ofNat 32 1, BitVec.ofNat 32 k) := by
        simp [logOf, ho]
      rw [h1, logOf_counting os (k + 1) 1 _ (by omega) (by omega)]
      simp [ho, List.findIdx?_cons, Nat.add_comm]

end Sys2Proof.Machine
end

