-- ==== Sys2Proof/Laws/Normalize.lean ====
section
/-! SUPPORT. What the normalizer's walk does, said once: it stores the emissions of the halves it gets
through one after another, counts the skips among them, and raises at the first half that fails. -/

namespace Sys2Proof.Machine

/-! ## The window tests in natural numbers -/

theorem inWin_iff (d base tol : Word) (m : Multiple) :
    inWin d base tol m = true ↔ window (multipleFactor m) d base tol := by
  unfold inWin
  rw [Bool.and_eq_true, decide_eq_true_iff, decide_eq_true_iff]
  cases m <;> simp only [window, multipleFactor, toleranceFactor, Config.tripleTolMult] <;> omega

theorem inWin_eq (d base tol : Word) (m : Multiple) :
    inWin d base tol m = decide (window (multipleFactor m) d base tol) := by
  rw [Bool.eq_iff_iff, inWin_iff, decide_eq_true_eq]

theorem classify_eq (d base tol : Word) : classify d base tol = widthClass d base tol := by
  simp only [classify, widthClass, inWin_iff, multipleFactor]

/-! ## The halves of a capture -/

@[simp] theorem halfDur_eq (s : State) (p : Nat × Half) : s.halfDur p = (s.rawAt p.1).dur p.2 := rfl

@[simp] theorem halfLevel_eq (s : State) (p : Nat × Half) : s.halfLevel p = (s.rawAt p.1).level p.2 := rfl

theorem capturedHalves_eq (n : Nat) : capturedHalves n = halvesOf n := by
  induction n with
  | zero => rfl
  | succ n ih =>
    have h : capturedHalves (n + 1) = capturedHalves n ++ [(n, .first), (n, .second)] := by
      have h1 : 2 * n / 2 = n := by omega
      have h2 : (2 * n + 1) / 2 = n := by omega
      have h3 : (2 * n + 1) % 2 = 1 := by omega
      simp [capturedHalves, Nat.mul_add, List.range_succ, h1, h2, h3]
    rw [h, ih]
    simp [halvesOf, List.range_succ]

/-! ## What one half contributes does not depend on what the walk writes -/

theorem halfClass_congr {s t : State} (hc : t.cfg = s.cfg) (hi : t.inp = s.inp) (p : Nat × Half) :
    t.halfClass p = s.halfClass p := by
  simp [State.halfClass, State.rawAt, hc, hi]

theorem halfFails_congr {s t : State} (hc : t.cfg = s.cfg) (hi : t.inp = s.inp) :
    t.halfFails = s.halfFails := by
  funext p
  simp [State.halfFails, State.rawAt, State.lenient, halfClass_congr hc hi, hc, hi]

theorem halfSkips_congr {s t : State} (hc : t.cfg = s.cfg) (hi : t.inp = s.inp) :
    t.halfSkips = s.halfSkips := by
  funext p
  simp [State.halfSkips, State.rawAt, State.lenient, halfClass_congr hc hi, hc, hi]

theorem halfEmits_congr {s t : State} (hc : t.cfg = s.cfg) (hi : t.inp = s.inp) :
    t.halfEmits = s.halfEmits := by
  funext p
  simp [State.halfEmits, State.rawAt, halfClass_congr hc hi, hi]

/-! ## How much a walk can emit (rule R126) -/

theorem halfEmits_length (s : State) (p : Nat × Half) : (s.halfEmits p).length ≤ 2 := by
  simp only [State.halfEmits]
  split
  · simp
  · cases s.halfClass p <;> simp

theorem length_flatMap_le {α β : Type} (l : List α) (f : α → List β) (n : Nat)
    (h : ∀ a, (f a).length ≤ n) : (l.flatMap f).length ≤ n * l.length := by
  induction l with
  | nil => simp
  | cons a l ih =>
    have := h a
    simp only [List.flatMap_cons, List.length_append, List.length_cons, Nat.mul_add, Nat.mul_one]
    omega

theorem halvesOf_length (n : Nat) : (halvesOf n).length = 2 * n := by
  unfold halvesOf
  induction n with
  | zero => rfl
  | succ n ih => simp [List.range_succ, ih]; omega

theorem takeWhile_length_le {α : Type} (l : List α) (f : α → Bool) :
    (l.takeWhile f).length ≤ l.length := by
  induction l with
  | nil => simp
  | cons a l ih => simp only [List.takeWhile_cons]; split <;> simp; exact ih

/-- A walk over `n` symbols emits at most `4 * n` unit pulses. -/
theorem walk_emits_le (s : State) :
    (s.walkedHalves.flatMap s.halfEmits).length ≤ 4 * s.symCount := by
  have h1 := length_flatMap_le s.walkedHalves s.halfEmits 2 (halfEmits_length s)
  have h2 : s.walkedHalves.length ≤ 2 * s.symCount := by
    have := takeWhile_length_le (halvesOf s.symCount) fun p => !s.halfFails p
    rwa [halvesOf_length, ← capturedHalves_eq] at this
  have h3 : 2 * s.walkedHalves.length ≤ 2 * (2 * s.symCount) := Nat.mul_le_mul_left 2 h2
  omega

/-! ## Storing a sequence of unit pulses -/

/-- `us` with `es` stored from index `n` on, one after another. -/
def storeFrom (us : List UnitPulse) : Nat → List UnitPulse → List UnitPulse
  | _, [] => us
  | n, e :: es => storeFrom (us.set n e) (n + 1) es

theorem storeFrom_append (us : List UnitPulse) (n : Nat) (xs ys : List UnitPulse) :
    storeFrom us n (xs ++ ys) = storeFrom (storeFrom us n xs) (n + xs.length) ys := by
  induction xs generalizing us n with
  | nil => rfl
  | cons x xs ih =>
    simp only [List.cons_append, storeFrom, ih, List.length_cons]
    rw [Nat.add_right_comm, Nat.add_assoc]

theorem storeFrom_eq (us : List UnitPulse) (n : Nat) (es : List UnitPulse)
    (h : n + es.length ≤ us.length) :
    storeFrom us n es = us.take n ++ es ++ us.drop (n + es.length) := by
  induction es generalizing us n with
  | nil => simp [storeFrom]
  | cons e es ih =>
    simp only [List.length_cons] at h
    rw [storeFrom, ih _ _ (by simp; omega)]
    apply List.ext_getElem?
    intro i
    simp only [List.getElem?_append, List.length_append, List.length_take, List.length_set,
      List.length_cons, List.getElem?_take, List.getElem?_drop, List.getElem?_set]
    rcases Nat.lt_trichotomy i n with hi | hi | hi
    · have h1 : i < min (n + 1) us.length := by omega
      have h2 : i < min n us.length := by omega
      have h3 : i < min (n + 1) us.length + es.length := by omega
      have h4 : i < min n us.length + (es.length + 1) := by omega
      have h5 : i < n + 1 := by omega
      have h6 : n ≠ i := by omega
      simp [h1, h2, h3, h4, hi, h5, h6]
    · subst hi
      have h1 : i < min (i + 1) us.length := by omega
      have h2 : ¬ i < min i us.length := by omega
      have h3 : i < min (i + 1) us.length + es.length := by omega
      have h4 : i < min i us.length + (es.length + 1) := by omega
      have h5 : i < us.length := by omega
      have h6 : i - min i us.length = 0 := by omega
      simp only [h1, h2, h3, h4, h5, h6]
      simp
    · have h1 : ¬ i < n + 1 := by omega
      have h2 : ¬ i < n := by omega
      have e1 : min (n + 1) us.length = n + 1 := by omega
      have e2 : min n us.length = n := by omega
      have e3 : i - n = (i - (n + 1)) + 1 := by omega
      simp only [e1, e2, h1, h2, if_false]
      by_cases h3 : i < n + 1 + es.length
      · have h4 : i < n + (es.length + 1) := by omega
        simp only [h3, h4, if_true, e3, List.getElem?_cons_succ]
      · have h4 : ¬ i < n + (es.length + 1) := by omega
        have e4 : n ≠ n + 1 + es.length + (i - (n + 1 + es.length)) := by omega
        have e5 : n + 1 + es.length + (i - (n + 1 + es.length)) = n + (es.length + 1) + (i - (n + (es.length + 1))) := by omega
        simp only [h3, h4, if_false, e4]
        rw [e5]

/-! ## The walk -/

/-- The state of a walk that has got through the halves `ok`. -/
def State.afterHalves (s : State) (ok : List (Nat × Half)) : State :=
  { s with
    work.units := storeFrom s.work.units s.unitCount (ok.flatMap s.halfEmits)
    work.unitCount := s.work.unitCount + BitVec.ofNat 32 (ok.flatMap s.halfEmits).length
    rep.skipCount := s.rep.skipCount + BitVec.ofNat 32 (ok.countP s.halfSkips) }

/-- The walk over `hs` as a whole, while the unit count does not wrap. -/
theorem normalizeHalves_eq (hs : List (Nat × Half)) (s : State)
    (hb : s.unitCount + 2 * hs.length < 2 ^ 32) :
    normalizeHalves hs s =
      match hs.dropWhile fun p => !s.halfFails p with
      | [] => s.afterHalves hs
      | p :: _ => (s.afterHalves (hs.takeWhile fun p => !s.halfFails p)).raise (invalidWidthAt p.1 p.2) := by
  induction hs generalizing s with
  | nil => simp [normalizeHalves, State.afterHalves, storeFrom]
  | cons p hs ih =>
    obtain ⟨i, h⟩ := p
    simp only [List.length_cons] at hb
    -- a half that does not fail moves the state by its own contribution
    have step : ∀ t : State, t = s.afterHalves [(i, h)] → s.halfFails (i, h) = false →
        normalizeHalves ((i, h) :: hs) s = normalizeHalves hs t →
        normalizeHalves ((i, h) :: hs) s =
          match ((i, h) :: hs).dropWhile fun p => !s.halfFails p with
          | [] => s.afterHalves ((i, h) :: hs)
          | p :: _ =>
            (s.afterHalves (((i, h) :: hs).takeWhile fun p => !s.halfFails p)).raise
              (invalidWidthAt p.1 p.2) := by
      intro t ht hf he
      have hc : t.cfg = s.cfg := by rw [ht]; rfl
      have hi : t.inp = s.inp := by rw [ht]; rfl
      have hl := halfEmits_length s (i, h)
      have hu : t.unitCount = s.unitCount + (s.halfEmits (i, h)).length := by
        rw [ht]
        simp only [State.unitCount, State.afterHalves] at hb ⊢
        simp only [List.flatMap_cons, List.flatMap_nil, List.append_nil, BitVec.toNat_add,
          BitVec.toNat_ofNat]
        omega
      have join : ∀ ok, t.afterHalves ok = s.afterHalves ((i, h) :: ok) := by
        intro ok
        have hu' := hu
        rw [ht] at hu'
        simp only [State.afterHalves, halfEmits_congr hc hi, halfSkips_congr hc hi, hu]
        rw [ht]
        simp [State.afterHalves, List.flatMap_cons, storeFrom_append, List.countP_cons,
          BitVec.ofNat_add, BitVec.add_assoc]
        ac_rfl
      rw [he, ih t (by omega), halfFails_congr hc hi]
      simp only [List.dropWhile_cons, List.takeWhile_cons, hf, Bool.not_false, if_true]
      cases hd : hs.dropWhile fun p => !s.halfFails p with
      | nil => simp only [join]
      | cons q qs => simp only [join]
    by_cases hd : (s.rawAt i).dur h = 0#32
    · refine step s ?_ (by simp [State.halfFails, hd]) (by simp [normalizeHalves, hd])
      simp [State.afterHalves, State.halfEmits, State.halfSkips, hd, storeFrom]
    · cases hcl : widthClass ((s.rawAt i).dur h) s.cfg.base s.cfg.tol with
      | single =>
        refine step (s.emitUnit { level := (s.rawAt i).level h, dur := (s.rawAt i).dur h }) ?_
          (by simp [State.halfFails, State.halfClass, hcl])
          (by simp only [normalizeHalves, classify_eq, hd, hcl, if_false])
        simp [State.afterHalves, State.halfEmits, State.halfSkips, State.halfClass, hd, hcl, storeFrom,
          State.emitUnit, State.unitCount]
      | double =>
        refine step
          ((s.emitUnit { level := (s.rawAt i).level h, dur := (s.rawAt i).dur h / 2#32 }).emitUnit
            { level := (s.rawAt i).level h, dur := (s.rawAt i).dur h / 2#32 }) ?_
          (by simp [State.halfFails, State.halfClass, hcl])
          (by simp only [normalizeHalves, classify_eq, hd, hcl, if_false])
        have h1 : (s.work.unitCount + 1#32).toNat = s.work.unitCount.toNat + 1 := by
          simp only [State.unitCount] at hb
          simp only [BitVec.toNat_add, BitVec.toNat_ofNat]
          omega
        have h2 : s.work.unitCount + 1#32 + 1#32 = s.work.unitCount + 2#32 := by
          rw [BitVec.add_assoc]; rfl
        simp [State.afterHalves, State.halfEmits, State.halfSkips, State.halfClass, hd, hcl, storeFrom,
          State.emitUnit, State.unitCount, h1, h2]
      | invalid =>
        by_cases hl : s.lenient = true
        · refine step s.countSkip ?_ (by simp [State.halfFails, hl])
            (by simp only [normalizeHalves, classify_eq, hd, hcl, if_false]; rw [if_pos hl])
          simp [State.afterHalves, State.halfEmits, State.halfSkips, State.halfClass, hd, hcl, hl,
            storeFrom, State.countSkip]
        · have hf : s.halfFails (i, h) = true := by
            simp [State.halfFails, State.halfClass, hd, hcl, hl]
          simp only [normalizeHalves, classify_eq, hd, hcl, if_false]
          rw [if_neg hl]
          simp [hf, State.afterHalves, storeFrom]

end Sys2Proof.Machine
end

