-- ==== Sys2Proof/Laws/Commands.lean ====
section
/-! SUPPORT. What each stage can do, said once: the registers it may write and the error it may raise;
and the tests of table T221 in the words of rule R221. -/

namespace Sys2Proof.Machine

/-! ## A command as a whole -/

theorem stageCommand_bad {clear stage : State → State} {s : State} :
    stageCommand true clear stage s = s.refuse .badConfig := rfl

theorem stageCommand_good {clear stage : State → State} {s : State} :
    stageCommand false clear stage s = (stage (clear s.accept)).finish := rfl

theorem badPatterns_iff (s : State) : s.badPatterns = true ↔ s.patternsBad := by
  simp [State.badPatterns, State.patternsBad, or_assoc]

theorem badCapture_iff (s : State) : s.badCapture = true ↔ s.params.rawCap < s.symCount := by
  simp [State.badCapture]

theorem gateSkips_iff (s : State) : s.gateSkips = true ↔ ¬ s.gateOpen := by
  simp [State.gateSkips, State.gateOpen]

theorem levelOK_iff (p : PatLevel) (l : Level) : levelOK p l = true ↔ p.accepts l := by
  cases p <;> cases l <;> decide

/-- CTRL's policy field and its two bits. -/
theorem ctrlPolicy_iff (c : Ctrl) :
    (c.extractLsb' 0 2 = 0#2 ↔ ctrlPolicy c = .dhtMarkSpace) ∧
      (c.extractLsb' 0 2 = 1#2 ↔ ctrlPolicy c = .manchester) ∧
      (c.extractLsb' 0 2 = 2#2 ↔ ctrlPolicy c = .pulseDistance) ∧
      (c.extractLsb' 0 2 = 3#2 ↔ ctrlPolicy c = .reserved) ∧
      (c.extractLsb' 2 1 = 1#1 ↔ ctrlDiff c = true) ∧ (c.extractLsb' 2 1 = 0#1 ↔ ctrlDiff c = false) := by
  revert c
  decide

/-! ## U2 -/

/-- A walk writes UNIT, UNIT_COUNT and SKIP_COUNT, and may raise InvalidPulseWidth after that. -/
theorem normalizeHalves_outcome (hs : List (Nat × Half)) (s : State) :
    ∃ (us : List UnitPulse) (n k : Word), us.length = s.work.units.length ∧
      (normalizeHalves hs s =
          { s with work.units := us, work.unitCount := n, rep.skipCount := k } ∨
        ∃ p : Nat × Half,
          normalizeHalves hs s =
            ({ s with work.units := us, work.unitCount := n, rep.skipCount := k } : State).raise
              (invalidWidthAt p.1 p.2)) := by
  induction hs generalizing s with
  | nil => exact ⟨_, _, _, rfl, .inl rfl⟩
  | cons p hs ih =>
    obtain ⟨i, h⟩ := p
    -- a half that does not end the walk only moves UNIT, UNIT_COUNT and SKIP_COUNT
    have go : ∀ t us0 n0 k0,
        t = ({ s with work.units := us0, work.unitCount := n0, rep.skipCount := k0 } : State) →
        us0.length = s.work.units.length →
        normalizeHalves ((i, h) :: hs) s = normalizeHalves hs t →
        ∃ (us : List UnitPulse) (n k : Word), us.length = s.work.units.length ∧
          (normalizeHalves ((i, h) :: hs) s =
              { s with work.units := us, work.unitCount := n, rep.skipCount := k } ∨
            ∃ p : Nat × Half,
              normalizeHalves ((i, h) :: hs) s =
                ({ s with work.units := us, work.unitCount := n, rep.skipCount := k } : State).raise
                  (invalidWidthAt p.1 p.2)) := by
      intro t us0 n0 k0 ht hl he
      obtain ⟨us, n, k, h1, h2⟩ := ih t
      subst ht
      refine ⟨us, n, k, h1.trans hl, ?_⟩
      rw [he]
      exact h2
    by_cases hd : (s.rawAt i).dur h = 0#32
    · exact go s _ _ _ rfl rfl (by simp [normalizeHalves, hd])
    · cases hc : classify ((s.rawAt i).dur h) s.cfg.base s.cfg.tol with
      | single =>
        exact go (s.emitUnit _) _ _ _ rfl (by simp) (by simp only [normalizeHalves, hd, hc, if_false]; rfl)
      | double =>
        exact go ((s.emitUnit _).emitUnit _) _ _ _ rfl (by simp)
          (by simp only [normalizeHalves, hd, hc, if_false]; rfl)
      | invalid =>
        by_cases hl : s.lenient = true
        · exact go s.countSkip _ _ _ rfl (by simp)
            (by simp only [normalizeHalves, hd, hc, if_false]; rw [if_pos hl])
        · refine ⟨s.work.units, s.work.unitCount, s.rep.skipCount, rfl, .inr ⟨(i, h), ?_⟩⟩
          simp only [normalizeHalves, hd, hc, if_false]
          rw [if_neg hl]

/-! ## U3 -/

/-- The payload window of rules R142 and R143. -/
theorem writePayload_eq (s : State) :
    let count := s.unitCount - s.startLen - s.stopLen
    s.writePayload =
      { s with
        work.payStart := s.cfg.startLen
        work.payCount :=
          BitVec.ofNat 32 (if s.stopLen = 0 ∧ count % 2 = 1 then count + 1 else count)
        work.payPad :=
          if s.stopLen = 0 ∧ count % 2 = 1 then
            { pad := true, level := (s.unitAt (s.unitCount - 1)).level.complement }
          else s.work.payPad } := by
  unfold State.writePayload
  dsimp only
  by_cases h : s.stopLen = 0 ∧ (s.unitCount - s.startLen - s.stopLen) % 2 = 1
  · rw [if_pos h, if_pos h, if_pos h]
  · rw [if_neg h, if_neg h, if_neg h]

/-- The match stage raises IncompleteFrame of U3 and writes nothing else, or writes the window. -/
theorem matchStage_outcome (s : State) :
    (∃ j, matchStage s = s.raise (mismatchAt j)) ∨
      (matchStage s = s.writePayload ∧ s.startLen + s.stopLen ≤ s.unitCount) := by
  unfold matchStage
  split
  · exact .inl ⟨_, rfl⟩
  · split
    · exact .inl ⟨_, rfl⟩
    · split
      · exact .inl ⟨_, rfl⟩
      · exact .inr ⟨rfl, by omega⟩

theorem startMismatch_eq_none (s : State) :
    startMismatch s = none ↔ ∀ i, i < s.startLen → s.startOk i := by
  simp [startMismatch, List.find?_eq_none, levelOK_iff, State.startOk]

/-- The stop test in terms of the stop entries instead of the unit indices. -/
theorem stopMismatch_eq (s : State) :
    stopMismatch s =
      ((List.range s.stopLen).find? fun k =>
        !levelOK (s.stopPatAt k).level (s.unitAt (s.stopPulse k)).level).map s.stopPulse := by
  unfold stopMismatch
  rw [List.find?_map]
  congr 2
  funext k
  simp

theorem stopMismatch_eq_none (s : State) :
    stopMismatch s = none ↔ ∀ k, k < s.stopLen → s.stopOk k := by
  simp [stopMismatch_eq, List.find?_eq_none, levelOK_iff, State.stopOk]

/-! ## U4 -/

/-- What an assembler stage leaves from `s`: an IncompleteFrame of U4 and nothing else, or a frame, a
bit count and a bit error log. -/
def AssembleOutcome (s t : State) : Prop :=
  (∃ x, t = s.raise (assemblerError x)) ∨
    ∃ (f : List Byte) (n c l : Word), f.length = s.out.frame.length ∧
      t = { s with out.frame := f, out.bitCount := n, rep.bitErrCount := c, rep.bitErrFirst := l }

theorem assembled_outcome (order : BitOrder) (os : List BitOutcome) (s : State) :
    AssembleOutcome s (s.assembled order os) := by
  unfold State.assembled
  rw [placeBits_eq]
  exact .inr ⟨_, _, _, _, by simp, rfl⟩

theorem assembleRaw_outcome (order : BitOrder) (n : Nat) (f : RawSymbol → BitOutcome) (s : State) :
    AssembleOutcome s (assembleRaw order n f s) := by
  unfold assembleRaw
  split
  · exact .inl ⟨_, rfl⟩
  · exact assembled_outcome ..

theorem assemblePairs_outcome (f : Level → Level → BitOutcome) (s : State) :
    AssembleOutcome s (assemblePairs f s) := by
  unfold assemblePairs
  dsimp only
  split
  · exact .inl ⟨_, rfl⟩
  · split
    · exact .inl ⟨_, rfl⟩
    · exact assembled_outcome ..

theorem assembleStage_outcome (s : State) : AssembleOutcome s (assembleStage s) := by
  unfold assembleStage
  split
  · exact assembleRaw_outcome ..
  · split <;> exact assemblePairs_outcome ..
  · exact assembleRaw_outcome ..
  · exact .inr ⟨_, _, _, _, rfl, rfl⟩

/-! ## U5 -/

/-- What a validator stage leaves from `s`: STATUS but its DONE, SKIPPED and CMD_ERR, ERR_INDEX and the
readings may change. -/
def ValidateOutcome (s t : State) : Prop :=
  ∃ (st : Status) (x h w : Word),
    t = { s with rep.status := st, rep.errIndex := x, out.humX10 := h, out.tempX10 := w } ∧
    st.cmdErr = s.rep.status.cmdErr ∧ st.done = s.rep.status.done ∧ st.skipped = s.rep.status.skipped

theorem validateDhtStage_outcome (s : State) : ValidateOutcome s (validateDhtStage s) := by
  unfold validateDhtStage
  split
  · exact ⟨_, _, _, _, rfl, rfl, rfl, rfl⟩
  · split <;> exact ⟨_, _, _, _, rfl, rfl, rfl, rfl⟩

theorem validateNecStage_outcome (s : State) : ValidateOutcome s (validateNecStage s) := by
  unfold validateNecStage State.writeNecChecks
  dsimp only
  split <;> exact ⟨_, _, _, _, rfl, rfl, rfl, rfl⟩

theorem validateNoneStage_outcome (s : State) : ValidateOutcome s (validateNoneStage s) :=
  ⟨_, _, _, _, rfl, rfl, rfl, rfl⟩

theorem validateStage_outcome (s : State) : ValidateOutcome s (validateStage s) := by
  unfold validateStage
  split
  · exact validateDhtStage_outcome s
  · exact validateNoneStage_outcome s
  · exact validateNecStage_outcome s
  · exact ⟨_, _, _, _, rfl, rfl, rfl, rfl⟩

/-! ## What every stage keeps -/

/-- `t` has the configuration, inputs, host side, CMD_ERR, DONE, CLS_RESULT and array lengths of `s`. -/
abbrev State.keptBy (s t : State) : Prop :=
  s.sameInputs t ∧ t.rep.status.cmdErr = s.rep.status.cmdErr ∧ t.rep.status.done = s.rep.status.done ∧
    t.rep.clsResult = s.rep.clsResult ∧ t.work.units.length = s.work.units.length ∧
    t.out.frame.length = s.out.frame.length

theorem State.keptBy_trans {s t u : State} (h : s.keptBy t) (g : t.keptBy u) : s.keptBy u := by
  simp only [State.keptBy, State.sameInputs] at *
  simp [*]

theorem normalizeStage_keeps (s : State) : s.keptBy (normalizeStage s) := by
  obtain ⟨us, n, k, hl, h | ⟨p, h⟩⟩ := normalizeHalves_outcome (halvesOf s.symCount) s <;>
    unfold normalizeStage <;> rw [h] <;> simp [State.keptBy, State.sameInputs, hl]

theorem matchStage_keeps (s : State) : s.keptBy (matchStage s) := by
  obtain ⟨j, h⟩ | ⟨h, _⟩ := matchStage_outcome s
  · rw [h]
    simp [State.keptBy, State.sameInputs]
  · rw [h, writePayload_eq]
    simp [State.keptBy, State.sameInputs]

theorem AssembleOutcome.keeps {s t : State} (h : AssembleOutcome s t) : s.keptBy t := by
  obtain ⟨j, rfl⟩ | ⟨_, _, _, _, hl, rfl⟩ := h <;> simp [State.keptBy, State.sameInputs, *]

theorem ValidateOutcome.keeps {s t : State} (h : ValidateOutcome s t) : s.keptBy t := by
  obtain ⟨_, _, _, _, rfl, _⟩ := h
  simp [State.keptBy, State.sameInputs, *]

theorem unlessError_keeps {stage : State → State} (h : ∀ s : State, s.keptBy (stage s)) (s : State) :
    s.keptBy (unlessError stage s) := by
  unfold unlessError
  split
  · exact h s
  · simp [State.keptBy, State.sameInputs]

theorem decodeStage_keeps (s : State) : s.keptBy (decodeStage s) := by
  unfold decodeStage
  split
  · simp [State.keptBy, State.sameInputs]
  · unfold decodeStages
    dsimp only
    refine State.keptBy_trans
      (State.keptBy_trans ?_ (unlessError_keeps (fun s => (assembleStage_outcome s).keeps) _))
      (unlessError_keeps (fun s => (validateStage_outcome s).keeps) _)
    split
    · exact State.keptBy_trans (normalizeStage_keeps s) (unlessError_keeps matchStage_keeps _)
    · simp [State.keptBy, State.sameInputs]

end Sys2Proof.Machine
end

