-- ==== Sys2Proof/Laws/PerInstr.lean ====
section
/-! SUPPORT. The family of statements made per command: the decoder gives back what the encoder wrote,
whatever the value of CTRL, as long as CTRL selects the row (30_encoding.md rules R82 and R84). -/

namespace Sys2Proof.Laws.Encodes

/-- The word of `i` decodes to `i` under every CTRL that selects the row of `i`. -/
def Statement (i : Instr) : Prop :=
  ∀ ctrl : Ctrl, i.wellFormed ctrl = true → decodeWord ctrl (encode i) = .instr i

theorem nop : Statement .nop := by unfold Statement; decide
theorem clear : Statement .clear := by unfold Statement; decide
theorem classify : Statement .classify := by unfold Statement; decide
theorem normalize : Statement .normalize := by unfold Statement; decide
theorem matchPreamble : Statement .matchPreamble := by unfold Statement; decide
theorem assembleDht : Statement .assembleDht := by unfold Statement; decide
theorem assembleMan : Statement .assembleMan := by unfold Statement; decide
theorem assembleDman : Statement .assembleDman := by unfold Statement; decide
theorem assemblePd : Statement .assemblePd := by unfold Statement; decide
theorem validateDht : Statement .validateDht := by unfold Statement; decide
theorem validateNone : Statement .validateNone := by unfold Statement; decide
theorem validateNec : Statement .validateNec := by unfold Statement; decide
theorem decode : Statement .decode := by unfold Statement; decide

end Sys2Proof.Laws.Encodes
end

