-- ==== Sys2Proof/Laws/Port.lean ====
section
/-! SUPPORT. The address map region by region, and what a register write does to the state: the
parameters and results it keeps, and the words other than its own. -/

namespace Sys2Proof.Machine

theorem legal_iff (p : Params) :
    p.legal = true ↔
      p.rawCap % 4 = 0 ∧ 44 ≤ p.rawCap ∧ p.rawCap ≤ 1024 ∧ 1 ≤ p.patCap ∧ p.patCap ≤ 16 := by
  simp [Params.legal, and_assoc]

/-! ## The map of table T63 -/

theorem locate_scalar {p : Params} {a : Addr} (h : a.toNat < 0x20) : locate p a = scalarPlace a.toNat := by
  simp [locate, h]

theorem locate_start {p : Params} {a : Addr} (h0 : 0x20 ≤ a.toNat) (h : a.toNat < 0x20 + 2 * p.patCap) :
    locate p a =
      if a.toNat % 2 = 0 then .startLevel ((a.toNat - 0x20) / 2) else .startMult ((a.toNat - 0x20) / 2) := by
  unfold locate
  dsimp only
  rw [if_neg (by omega), if_pos (by omega)]

theorem locate_stop {p : Params} {a : Addr} (hp : p.patCap ≤ 16) (h0 : 0x40 ≤ a.toNat)
    (h : a.toNat < 0x40 + 2 * p.patCap) :
    locate p a =
      if a.toNat % 2 = 0 then .stopLevel ((a.toNat - 0x40) / 2) else .stopMult ((a.toNat - 0x40) / 2) := by
  unfold locate
  dsimp only
  rw [if_neg (by omega), if_neg (by omega), if_pos (by omega)]

theorem locate_frame {p : Params} {a : Addr} (hp : p.patCap ≤ 16) (h0 : 0x100 ≤ a.toNat)
    (h : a.toNat < 0x100 + p.frameCap) : locate p a = .frame (a.toNat - 0x100) := by
  unfold locate
  dsimp only
  rw [if_neg (by omega), if_neg (by omega), if_neg (by omega), if_pos (by omega)]

theorem locate_raw {p : Params} {a : Addr} (hp : p.legal = true) (h0 : 0x1000 ≤ a.toNat)
    (h : a.toNat < 0x1000 + 4 * p.rawCap) : locate p a = rawPlace (a.toNat - 0x1000) := by
  rw [legal_iff] at hp
  unfold locate Params.frameCap
  dsimp only
  rw [if_neg (by omega), if_neg (by omega), if_neg (by omega), if_neg (by omega), if_pos (by omega)]

theorem locate_unit {p : Params} {a : Addr} (hp : p.legal = true) (h0 : 0x2000 ≤ a.toNat)
    (h : a.toNat < 0x2000 + 2 * p.unitCap) :
    locate p a =
      if a.toNat % 2 = 0 then .unitDur ((a.toNat - 0x2000) / 2) else .unitLevel ((a.toNat - 0x2000) / 2) := by
  rw [legal_iff] at hp
  unfold locate Params.frameCap
  dsimp only
  rw [if_neg (by omega), if_neg (by omega), if_neg (by omega), if_neg (by omega), if_neg (by omega),
    if_pos (by omega)]

/-- The four words of a RAW entry. -/
theorem rawPlace_cases (o : Nat) :
    (o % 4 = 0 ∧ rawPlace o = .rawDur0 (o / 4)) ∨ (o % 4 = 1 ∧ rawPlace o = .rawDur1 (o / 4)) ∨
      (o % 4 = 2 ∧ rawPlace o = .rawLevels (o / 4)) ∨ (o % 4 = 3 ∧ rawPlace o = .unmapped) := by
  have h : o % 4 = 0 ∨ o % 4 = 1 ∨ o % 4 = 2 ∨ o % 4 = 3 := by omega
  rcases h with h | h | h | h <;> simp [rawPlace, h]

/-! ## Reading an element after setting one -/

theorem getD_set {α : Type} (l : List α) (i j : Nat) (x d : α) :
    (l.set i x).getD j d = if i = j ∧ j < l.length then x else l.getD j d := by
  simp only [List.getD_eq_getElem?_getD, List.getElem?_set]
  by_cases h : i = j
  · subst h
    by_cases h2 : i < l.length <;> simp [h2]
  · simp [h]

/-! ## Register writes -/

/-- What a register write keeps, whatever place it goes to: the capacities, every status and working
register, the readings, the lengths of the arrays, and the host's side. -/
theorem writePlace_keeps (s : State) (v : Word) (q : Place) :
    let t := s.writePlace v q
    t.params = s.params ∧ t.rep = s.rep ∧ t.work = s.work ∧ t.out.humX10 = s.out.humX10 ∧
      t.out.tempX10 = s.out.tempX10 ∧ t.out.frame.length = s.out.frame.length ∧
      t.inp.raw.length = s.inp.raw.length ∧ t.cfg.startPat.length = s.cfg.startPat.length ∧
      t.cfg.stopPat.length = s.cfg.stopPat.length ∧ t.pending = s.pending ∧ t.rdata = s.rdata ∧
      t.resets = s.resets := by
  cases q <;> simp only [State.writePlace] <;> first | simp | (split <;> simp)

end Sys2Proof.Machine
end

