-- ==== Sys2Proof/Laws/Shape.lean ====
section
/-! SUPPORT. The one form of the arrays: every operation on them keeps each at the length its capacity
says, and the state after reset has it. -/

namespace Sys2Proof.Machine

/-- The shape depends on the capacities and on the five lengths only. -/
theorem shaped_of {s t : State} (h : s.shaped) (hp : t.params = s.params)
    (h1 : t.cfg.startPat.length = s.cfg.startPat.length)
    (h2 : t.cfg.stopPat.length = s.cfg.stopPat.length) (hi : t.inp.raw.length = s.inp.raw.length)
    (hu : t.work.units.length = s.work.units.length) (hf : t.out.frame.length = s.out.frame.length) :
    t.shaped := by
  simp only [State.shaped, hp, h1, h2, hi, hu, hf]
  exact h

theorem powerOn_shaped (p : Params) (fill : Nat → Word) (h : p.legal = true) :
    (State.powerOn p fill).shaped := by
  simp [State.shaped, State.powerOn, h]

theorem reset_shaped : State.reset.shaped := powerOn_shaped _ _ rfl

theorem applyReset_shaped {s : State} (h : s.shaped) : s.applyReset.shaped :=
  shaped_of (powerOn_shaped s.params (Config.unspecified s.resets) h.1) rfl rfl rfl rfl rfl rfl

theorem emitUnit_shaped (u : UnitPulse) {s : State} (h : s.shaped) : (s.emitUnit u).shaped :=
  shaped_of h rfl rfl rfl rfl (by simp) rfl

theorem putBit_shaped (order : BitOrder) (k : Nat) (b : Bool) {s : State} (h : s.shaped) :
    (s.putBit order k b).shaped :=
  shaped_of h rfl rfl rfl rfl rfl (by simp)

theorem placeBits_shaped (order : BitOrder) (os : List BitOutcome) (k : Nat) {s : State} (h : s.shaped) :
    (State.placeBits order os k s).shaped := by
  rw [placeBits_eq]
  exact shaped_of h rfl rfl rfl rfl rfl (by simp)

theorem clearFrame_shaped {s : State} (h : s.shaped) : s.clearFrame.shaped :=
  shaped_of h (by simp) (by simp) (by simp) (by simp) (by simp) (by simp)

theorem clearPayload_shaped {s : State} (h : s.shaped) : s.clearPayload.shaped :=
  shaped_of h (by simp) (by simp) (by simp) (by simp) (by simp) (by simp)

theorem clearUnits_shaped {s : State} (h : s.shaped) : s.clearUnits.shaped :=
  shaped_of h (by simp) (by simp) (by simp) (by simp) (by simp) (by simp)

theorem clearPipeline_shaped {s : State} (h : s.shaped) : s.clearPipeline.shaped :=
  shaped_of h (by simp) (by simp) (by simp) (by simp) (by simp) (by simp)

theorem writePlace_shaped (v : Word) (q : Place) {s : State} (h : s.shaped) : (s.writePlace v q).shaped := by
  obtain ⟨h1, _, h3, _, _, h6, h7, h8, h9, _⟩ := writePlace_keeps s v q
  exact shaped_of h h1 h8 h9 h7 (by rw [h3]) h6

/-- A stage keeps the shape. -/
theorem shaped_of_kept {s t : State} (h : s.shaped) (k : s.keptBy t) : t.shaped := by
  obtain ⟨⟨hp, hc, hi, _⟩, _, _, _, hu, hf⟩ := k
  exact shaped_of h hp (by rw [hc]) (by rw [hc]) (by rw [hi]) hu hf

/-- No command changes the length of an array. -/
theorem exec_shaped (i : Instr) {s t : State} (h : s.shaped) (he : exec i s = .next t) : t.shaped := by
  have run : ∀ (bad : Bool) (clear stage : State → State), (clear s.accept).shaped →
      (∀ k : State, k.keptBy (stage k)) → (stageCommand bad clear stage s).shaped := by
    intro bad clear stage hc hk
    cases bad
    · rw [stageCommand_good]
      exact shaped_of (shaped_of_kept hc (hk (clear s.accept))) rfl rfl rfl rfl rfl rfl
    · exact h
  cases i with
  | nop => cases he; exact h
  | clear => cases he; exact clearPipeline_shaped (s := s.accept) h
  | classify => cases he; exact h
  | normalize =>
    cases he
    exact run _ _ _ (clearUnits_shaped (s := s.accept.clearErr) h) normalizeStage_keeps
  | matchPreamble =>
    cases he
    exact run _ _ _ (clearPayload_shaped (s := s.accept.clearErr) h) matchStage_keeps
  | assembleDht =>
    cases he
    exact run _ _ _ (clearFrame_shaped (s := s.accept.clearErr) h) fun _ => (assembleRaw_outcome ..).keeps
  | assembleMan =>
    cases he
    exact run _ _ _ (clearFrame_shaped (s := s.accept.clearErr) h) fun _ => (assemblePairs_outcome ..).keeps
  | assembleDman =>
    cases he
    exact run _ _ _ (clearFrame_shaped (s := s.accept.clearErr) h) fun _ => (assemblePairs_outcome ..).keeps
  | assemblePd =>
    cases he
    exact run _ _ _ (clearFrame_shaped (s := s.accept.clearErr) h) fun _ => (assembleRaw_outcome ..).keeps
  | validateDht => cases he; exact run _ _ _ h fun _ => (validateDhtStage_outcome _).keeps
  | validateNone => cases he; exact run _ _ _ h fun _ => (validateNoneStage_outcome _).keeps
  | validateNec => cases he; exact run _ _ _ h fun _ => (validateNecStage_outcome _).keeps
  | decode =>
    cases he
    exact run _ _ _ (clearPipeline_shaped (s := s.accept) h) decodeStage_keeps

end Sys2Proof.Machine
end

