-- ==== Sys2Proof/Tests/Slice0.lean ====
section
/-! SUPPORT. Tests: the words of table T82 written out bit by bit, the well-formedness smoke test, small
one-step examples taken from the spec's own examples and from 95_test_vectors.md, and for each
obligation with hypotheses a state and operands that meet them, clause by clause at the bounds. -/

namespace Sys2Proof.Tests

open Sys2Proof.Machine

/-! ## Decoding (table T82, rule R84; CTRL = LENIENT DIFF POLICY) -/

theorem test_decode_nop : decodeWord 0b0000#4 0b00000000000000000000000000000000#32 = .instr .nop := by decide
theorem test_decode_clear : decodeWord 0b0000#4 0b00000000000000000000000000000001#32 = .instr .clear := by decide
theorem test_decode_classify :
    decodeWord 0b1111#4 0b00000000000000000000000000000010#32 = .instr .classify := by decide
theorem test_decode_normalize :
    decodeWord 0b0001#4 0b00000000000000000000000000000011#32 = .instr .normalize := by decide
theorem test_decode_match :
    decodeWord 0b0010#4 0b00000000000000000000000000000100#32 = .instr .matchPreamble := by decide
theorem test_decode_assemble_dht :
    decodeWord 0b0100#4 0b00000000000000000000000000000101#32 = .instr .assembleDht := by decide
theorem test_decode_assemble_man :
    decodeWord 0b1001#4 0b00000000000000000000000000000101#32 = .instr .assembleMan := by decide
theorem test_decode_assemble_dman :
    decodeWord 0b0101#4 0b00000000000000000000000000000101#32 = .instr .assembleDman := by decide
theorem test_decode_assemble_pd :
    decodeWord 0b0110#4 0b00000000000000000000000000000101#32 = .instr .assemblePd := by decide
theorem test_decode_validate_dht :
    decodeWord 0b1000#4 0b00000000000000000000000000000110#32 = .instr .validateDht := by decide
theorem test_decode_validate_none :
    decodeWord 0b0101#4 0b00000000000000000000000000000110#32 = .instr .validateNone := by decide
theorem test_decode_validate_nec :
    decodeWord 0b0010#4 0b00000000000000000000000000000110#32 = .instr .validateNec := by decide
theorem test_decode_decode :
    decodeWord 0b0011#4 0b00000000000000000000000000000111#32 = .instr .decode := by decide

/-- Rule R83: op 8 to 15 and any reserved bit make the word illegal; policy 3 has no row. -/
theorem test_decode_refusals :
    decodeWord 0#4 0x00000008#32 = .illegalWord ∧ decodeWord 0#4 0x0000000F#32 = .illegalWord ∧
    decodeWord 0#4 0x00000017#32 = .illegalWord ∧ decodeWord 0#4 0x80000000#32 = .illegalWord ∧
    decodeWord 0b0011#4 0x00000005#32 = .reservedPolicy ∧
    decodeWord 0b0111#4 0x00000006#32 = .reservedPolicy := by decide

/-- Rule R80, formed by hand: bit 46 the write bit, the address from bit 32 on, then the data. -/
theorem test_transaction_value :
    encodeTransaction (.write 0x000A#14 0x00000000#32) = some 0x400A00000000#47 ∧
    decodeTransaction 0x400000000007#47 = .write cmdAddr 7#32 ∧
    decodeTransaction 0x000100000000#47 = .read 0x0001#14 := by decide

/-! ## Well-formedness smoke test: each check refuses an ill-formed term -/

theorem test_rows_not_selected :
    Instr.assembleDht.wellFormed 0b0001#4 = false ∧ Instr.assembleMan.wellFormed 0b0101#4 = false ∧
    Instr.assembleMan.wellFormed 0b0000#4 = false ∧ Instr.assembleDman.wellFormed 0b0001#4 = false ∧
    Instr.assembleDman.wellFormed 0b0100#4 = false ∧ Instr.assemblePd.wellFormed 0b0011#4 = false ∧
    Instr.validateDht.wellFormed 0b0010#4 = false ∧ Instr.validateNone.wellFormed 0b0000#4 = false ∧
    Instr.validateNec.wellFormed 0b0001#4 = false := by decide

/-- Rule R5: RAW_CAP not a multiple of 4, below 44, above 1024; PAT_CAP 0 or above 16. -/
theorem test_capacities_not_legal :
    Params.legal ⟨46, 8⟩ = false ∧ Params.legal ⟨40, 8⟩ = false ∧ Params.legal ⟨1028, 8⟩ = false ∧
    Params.legal ⟨64, 0⟩ = false ∧ Params.legal ⟨64, 17⟩ = false ∧ Params.standard.legal = true := by decide

/-! ## The states the tests start from -/

/-- Arrays for the tests: patterns that accept either level, raw symbols (Low, 50), (High, 70), unit
pulses of 50 at alternating levels, the first Low. -/
def labWord (a : Nat) : Word :=
  if a < 0x1000 then (if a % 2 = 0 then 2#32 else 1#32)
  else if a < 0x2000 then (if a % 4 = 0 then 50#32 else if a % 4 = 1 then 70#32 else 2#32)
  else if a % 2 = 0 then 50#32 else BitVec.ofNat 32 (a / 2 % 2)

/-- The default capacities, BASE = 60, TOL = 10, and the counts given. -/
def lab (ctrl : Ctrl) (syms skip bits : Nat) : State :=
  let s := State.powerOn Params.standard labWord
  { s with
    cfg :=
      { s.cfg with
        base := 60#32, tol := 10#32, ctrl := ctrl
        rawSkipHead := BitVec.ofNat 32 skip, numDataBits := BitVec.ofNat 32 bits }
    inp.symCount := BitVec.ofNat 32 syms }

/-- `lab` with unit pulses and a payload window in place. -/
def labUnits (ctrl : Ctrl) (units start count : Nat) (pad : Pad) (bits : Nat) : State :=
  let s := lab ctrl 0 0 bits
  { s with
    work :=
      { s.work with
        unitCount := BitVec.ofNat 32 units, payStart := BitVec.ofNat 32 start
        payCount := BitVec.ofNat 32 count, payPad := pad } }

/-- `lab` with a frame in place. -/
def labFrame (ctrl : Ctrl) (bits : Nat) (bytes : List Byte) : State :=
  let s := lab ctrl 0 0 0
  { s with
    out.bitCount := BitVec.ofNat 32 bits
    out.frame := bytes ++ List.replicate (16 - bytes.length) 0#8 }

/-- A `lab` whose raw symbols are the given ones. -/
def labRaw (ctrl : Ctrl) (base tol bits : Nat) (ys : List RawSymbol) : State :=
  let s := lab ctrl ys.length 0 bits
  { s with
    cfg.base := BitVec.ofNat 32 base
    cfg.tol := BitVec.ofNat 32 tol
    inp.raw := ys ++ List.replicate (64 - ys.length) ⟨0#32, 0#32, .low, .low⟩ }

/-- A field of the next state. -/
def after {α : Type} (o : Host.Outcome State Fault Refusal) (f : State → α) : Option α :=
  match o with
  | .next t => some (f t)
  | .fault _ => none
  | .refused _ => none

/-! ## One step of each command, expected results from the spec's examples -/

/-- Rule R222: NOP clears the refusal code of an illegal word. -/
theorem test_nop :
    after (exec .nop (State.reset.refuse .illegalWord)) (·.rep.status) = some Status.zero := by decide

/-- Rule R223: CLEAR empties a frame and unlocks it. -/
theorem test_clear :
    after (exec .clear (labFrame 0#4 40 [1#8, 2#8])) (fun t => (t.out.bitCount, t.out.frame.take 2)) =
      some (0#32, [0#8, 0#8]) := by decide

/-- Rule R104's example: BASE = 100, TOL = 20, CLS_DUR = 240 gives 0x1A. -/
theorem test_classify :
    after (exec .classify
      { State.reset with cfg.base := 100#32, cfg.tol := 20#32, inp.clsDur := 240#32 })
      (·.rep.clsResult.word) = some 0x1A#32 := by decide

/-- Vector NZ1: a Single, a Double, an odd Double, a terminal zero. -/
theorem test_normalize :
    after (exec .normalize
      (labRaw 0b0001#4 100 20 0 [⟨100#32, 200#32, .low, .high⟩, ⟨201#32, 0#32, .low, .high⟩]))
      (fun t => (t.rep.status.word, t.work.unitCount, t.work.units.take 5)) =
    some (0x00000001#32, 5#32,
      [⟨.low, 100#32⟩, ⟨.high, 100#32⟩, ⟨.high, 100#32⟩, ⟨.low, 100#32⟩, ⟨.low, 100#32⟩]) := by decide

/-- Vector NZ4: a failure in the second half of symbol 0. -/
theorem test_normalize_fails :
    after (exec .normalize (labRaw 0b0001#4 100 20 0 [⟨100#32, 50#32, .high, .low⟩]))
      (fun t => (t.rep.status.word, t.rep.errIndex, t.work.unitCount)) =
    some (0x00000053#32, 0#32, 1#32) := by decide

/-- Vector MT2: unit levels H L H L L, start pattern (High, Either), no stop pattern: padded, level High. -/
theorem test_match :
    after (exec .matchPreamble
      { State.reset with
        cfg.startPat := [⟨.high, 1#32⟩, ⟨.either, 1#32⟩], cfg.startLen := 2#32
        work.units := [⟨.high, 1#32⟩, ⟨.low, 1#32⟩, ⟨.high, 1#32⟩, ⟨.low, 1#32⟩, ⟨.low, 1#32⟩]
        work.unitCount := 5#32 })
      (fun t => (t.rep.status.word, t.work.payStart, t.work.payCount, t.work.payPad.word)) =
    some (1#32, 2#32, 4#32, 3#32) := by decide

/-- Rule R142: the first start entry that mismatches is named by ERR_INDEX. -/
theorem test_match_fails :
    after (exec .matchPreamble
      { State.reset with
        cfg.startPat := [⟨.low, 1#32⟩, ⟨.high, 1#32⟩], cfg.startLen := 2#32
        work.units := [⟨.low, 1#32⟩, ⟨.low, 1#32⟩], work.unitCount := 2#32 })
      (fun t => (t.rep.status.errKind, t.rep.status.errUnit, t.rep.errIndex, t.work.payCount)) =
    some (.incompleteFrame, .matcher, 1#32, 0#32) := by decide

/-- The symbols of rule R164's example (1, 0, logged, logged), then 36 zeros. -/
theorem test_assemble_dht :
    after (exec .assembleDht
      (labRaw 0#4 0 0 0
        ([⟨50#32, 70#32, .low, .high⟩, ⟨50#32, 27#32, .low, .high⟩, ⟨50#32, 50#32, .low, .high⟩,
          ⟨60#32, 70#32, .low, .high⟩] ++ List.replicate 36 ⟨50#32, 27#32, .low, .high⟩)))
      (fun t => (t.out.bitCount, t.frameAt 0, t.rep.bitErrCount, t.rep.bitErrFirst)) =
    some (40#32, 0x80#8, 2#32, 2#32) := by decide

/-- The sixteen unit levels of vectors MA1 and MA2. -/
def manchesterUnits (ctrl : Ctrl) : State :=
  let s := labUnits ctrl 16 0 16 Pad.zero 0
  { s with
    work.units :=
      [.low, .high, .high, .low, .low, .high, .low, .high, .high, .low, .high, .low, .low, .low, .low,
        .high].map fun l => ⟨l, 100#32⟩ }

/-- Vector MA1. -/
theorem test_assemble_man :
    after (exec .assembleMan (manchesterUnits 0b0001#4))
      (fun t => (t.out.bitCount, t.frameAt 0, t.rep.bitErrCount, t.rep.bitErrFirst)) =
    some (8#32, 0xB1#8, 1#32, 6#32) := by decide

/-- Vector MA2. -/
theorem test_assemble_dman :
    after (exec .assembleDman (manchesterUnits 0b0101#4))
      (fun t => (t.out.bitCount, t.frameAt 0, t.rep.bitErrCount, t.rep.bitErrFirst)) =
    some (8#32, 0x4E#8, 0#32, -1#32) := by decide

/-- Rule R171's example: BASE = 560, TOL = 150, symbols carrying 0,0,1,0,0,0,0,0; and the ambiguous
symbol (560, 1120) as ninth. -/
theorem test_assemble_pd :
    after (exec .assemblePd
      (labRaw 0b0010#4 560 150 9
        ([⟨560#32, 560#32, .low, .high⟩, ⟨560#32, 560#32, .low, .high⟩, ⟨560#32, 1680#32, .low, .high⟩] ++
          List.replicate 5 ⟨560#32, 560#32, .low, .high⟩ ++ [⟨560#32, 1120#32, .low, .high⟩])))
      (fun t => (t.out.bitCount, t.frameAt 0, t.frameAt 1, t.rep.bitErrCount, t.rep.bitErrFirst)) =
    some (9#32, 0x04#8, 0#8, 1#32, 8#32) := by decide

/-- Vector VA1. -/
theorem test_validate_dht :
    after (exec .validateDht (labFrame 0#4 40 [0x02#8, 0x8C#8, 0x01#8, 0x5F#8, 0xEE#8]))
      (fun t => (t.rep.status.word, t.out.humX10, t.out.tempX10)) =
    some (0x00001D01#32, 652#32, 351#32) := by decide

/-- Vector VA4: the extremes of both readings, and a failed check. -/
theorem test_validate_dht_mismatch :
    after (exec .validateDht (labFrame 0#4 40 [0xFF#8, 0xFF#8, 0xFF#8, 0xFF#8, 0xFF#8]))
      (fun t => (t.rep.status.word, t.out.humX10, t.out.tempX10)) =
    some (0x0000362F#32, 65535#32, 0xFFFF8001#32) := by decide

/-- Rule R204's example. -/
theorem test_validate_none :
    after (exec .validateNone (labFrame 0b0001#4 8 [0xB1#8])) (·.rep.status.word) =
      some 0x00000F01#32 := by decide

/-- Vector VA13: the first pair fails, and the frame is delivered all the same. -/
theorem test_validate_nec :
    after (exec .validateNec (labFrame 0b0010#4 32 [0x04#8, 0xFA#8, 0x02#8, 0xFD#8])) (·.rep.status.word) =
      some 0x00004E01#32 := by decide

/-- Vector K15: DECODE straight after reset. -/
theorem test_decode_after_reset :
    after (step (State.reset.withFetchWord 32 7)) (fun t => (t.rep.status.word, t.rep.errIndex)) =
      some (0x00000025#32, 0#32) := by decide

/-- The frame gate: STATUS of a skipped capture (rule R225, table T33). -/
theorem test_decode_skips :
    after (exec .decode { lab 0#4 40 0 0 with cfg.expectedSyms := 41#32 })
      (fun t => (t.rep.status.word, t.rep.errIndex)) = some (0x000000B5#32, -1#32) := by decide

/-- Vector K2 through the port: an illegal word changes CMD_ERR only. -/
theorem test_illegal_word :
    after (step (State.reset.withFetchWord 32 0x17)) (·.rep) =
      some { State.reset.rep with status := { Status.zero with cmdErr := .illegalWord } } ∧
    decodeTableWord 32 0x17 = none ∧ decodeTableWord 32 4 = some .matchPreamble := by decide

/-! ## Witnesses: states and operands that meet the hypotheses of the obligations -/

theorem lab_shaped (ctrl : Ctrl) (syms skip bits : Nat) : (lab ctrl syms skip bits).shaped :=
  shaped_of (powerOn_shaped Params.standard labWord rfl) rfl rfl rfl rfl rfl rfl

theorem labUnits_shaped (ctrl : Ctrl) (units start count : Nat) (pad : Pad) (bits : Nat) :
    (labUnits ctrl units start count pad bits).shaped :=
  shaped_of (lab_shaped ctrl 0 0 bits) rfl rfl rfl rfl rfl rfl

/-- TransactionsRunExactlyTheEncodedCommand: both sides hold of ASSEMBLE under POLICY = 1, DIFF = 1. -/
theorem witness_transactions_run :
    decodeTransaction 0x400000000005#47 = .write cmdAddr 5#32 ∧
    decodeWord 0b0101#4 5#32 = .instr .assembleDman ∧
    encodeTransaction (.write cmdAddr (encode .assembleDman)) = some 0x400000000005#47 ∧
    Instr.assembleDman.wellFormed 0b0101#4 = true := by decide

/-- TransactionValuesRoundTrip: a value with each write bit. -/
theorem witness_transaction_values :
    (0x400A00000000#47).extractLsb' 46 1 = 1#1 ∧ (0x3FFFFFFFFFFF#47).extractLsb' 46 1 = 0#1 := by decide

/-- StepRunsTheDecodedCommand: a pending command that decodes, and an idle core. -/
theorem witness_step :
    (State.reset.withFetchWord 32 7).pending = .write cmdAddr 7#32 :: [] ∧
    decodeWord (State.reset.withFetchWord 32 7).cfg.ctrl 7#32 = .instr .decode ∧
    State.reset.pending = [] := by decide

/-- EveryCommandWordRunsOrIsRefused: the first illegal op, the first and the last reserved bit, both
unselected words, the last legal op, ASSEMBLE under the last policy that has a row. -/
theorem witness_command_words :
    (let illegal (w : Word) := w.extractLsb' 4 28 ≠ 0#28 ∨ 8 ≤ (w.extractLsb' 0 4).toNat
     illegal 8#32 ∧ illegal 0x10#32 ∧ illegal 0x80000000#32 ∧ ¬ illegal 7#32 ∧ ¬ illegal 5#32) ∧
    (0b0011#4 : Ctrl).extractLsb' 0 2 = 3#2 ∧ (0b0010#4 : Ctrl).extractLsb' 0 2 ≠ 3#2 ∧
    (State.reset.withFetchWord 32 8).pending = .write cmdAddr 8#32 :: [] := by decide

/-- BadConfigurationIsRefusedAndNothingElse: SYM_COUNT at RAW_CAP and one above. -/
theorem witness_bad_capture :
    ¬ (lab 0#4 64 0 0).misconfigured .normalize ∧ (lab 0#4 65 0 0).misconfigured .normalize ∧
    ¬ (lab 0#4 64 0 0).misconfigured .assembleDht ∧ (lab 0#4 65 0 0).misconfigured .assembleDht ∧
    (lab 0b0010#4 65 0 0).misconfigured .assemblePd ∧ ¬ (lab 0b0001#4 65 0 0).misconfigured .assembleMan ∧
    (lab 0b0001#4 65 0 0).misconfigured .decode ∧ (lab 0b0011#4 0 0 0).misconfigured .decode ∧
    (lab 0b0011#4 0 0 0).misconfigured .validateNec ∧ (lab 0b0011#4 0 0 0).policy = .reserved := by
  simp only [State.misconfigured, ← badPatterns_iff]
  decide

/-- BadConfigurationIsRefusedAndNothingElse: START_LEN at PAT_CAP and above, a reserved level in the
last entry in use. -/
theorem witness_bad_patterns :
    ¬ ({ lab 0b0001#4 0 0 0 with cfg.startLen := 8#32 } : State).misconfigured .matchPreamble ∧
    ({ lab 0b0001#4 0 0 0 with cfg.startLen := 9#32 } : State).misconfigured .matchPreamble ∧
    ({ lab 0b0001#4 0 0 0 with cfg.stopLen := 9#32 } : State).misconfigured .decode ∧
    ({ lab 0b0001#4 0 0 0 with cfg.stopPat := [⟨.reserved, 0#32⟩], cfg.stopLen := 1#32 } : State).misconfigured
      .matchPreamble ∧
    ¬ ({ lab 0b0001#4 0 0 0 with cfg.stopPat := [⟨.reserved, 0#32⟩] } : State).misconfigured .matchPreamble := by
  simp only [State.misconfigured, ← badPatterns_iff]
  decide

/-- EveryStepKeepsTheRegisterInvariants: a state with a window and a pad in place, and a step from it. -/
theorem witness_invariants :
    (labUnits 0b0001#4 3 0 4 ⟨true, .high⟩ 0).inv ∧
    step (labUnits 0b0001#4 3 0 4 ⟨true, .high⟩ 0) = .next (labUnits 0b0001#4 3 0 4 ⟨true, .high⟩ 0) :=
  ⟨⟨labUnits_shaped .., by decide, by decide, by decide, by decide⟩, rfl⟩

/-- ResetMeetsTheRegisterInvariants and ResetRegistersReadTheirStatedValues: the least and the greatest
legal capacities. -/
theorem witness_legal_capacities : Params.legal ⟨44, 1⟩ = true ∧ Params.legal ⟨1024, 16⟩ = true := by decide

/-- ResetRegistersReadTheirStatedValues, the clauses at the bounds of their ranges: 0x01F is the last
scalar word; then, with 16 pattern entries, the last word of START_PAT and the first of STOP_PAT. -/
theorem witness_reset_words :
    hostRead (State.powerOn ⟨44, 16⟩ labWord) 0x0004#14 = -1#32 ∧
    hostRead (State.powerOn ⟨44, 16⟩ labWord) 0x001F#14 = 0#32 ∧
    hostRead (State.powerOn ⟨44, 16⟩ labWord) 0x003F#14 = labWord 0x3F ∧
    hostRead (State.powerOn ⟨44, 16⟩ labWord) 0x0040#14 = labWord 0x40 &&& 3#32 ∧
    hostRead (State.powerOn ⟨44, 16⟩ labWord) 0x010A#14 = 0#32 := by decide

/-- The same for the last words of RAW and UNIT with RAW_CAP = 44. -/
theorem witness_reset_array_words :
    hostRead (State.powerOn ⟨44, 1⟩ labWord) 0x10AF#14 = 0#32 ∧
    hostRead (State.powerOn ⟨44, 1⟩ labWord) 0x10AE#14 = labWord 0x10AE &&& 3#32 ∧
    hostRead (State.powerOn ⟨44, 1⟩ labWord) 0x215F#14 = labWord 0x215F &&& 1#32 :=
  ⟨by decide +kernel, by decide +kernel, by decide +kernel⟩

/-- ResetInputRestartsTheCore, HostReadsChangeNothing and RegisterWritesNeverTouchResults: the events. -/
theorem witness_events :
    ({ State.reset with pending := [.reset] } : State).pending = .reset :: [] ∧
    ({ State.reset with pending := [.read 1#14] } : State).pending = .read 1#14 :: [] ∧
    ({ State.reset with pending := [.write 8#14 100#32] } : State).pending = .write 8#14 100#32 :: [] ∧
    (8#14 : Addr) ≠ cmdAddr := by decide

/-- IgnoredAccessesReadZeroAndChangeNothing: the words just outside each range of the map, and the ends
of the read-only ranges. -/
theorem witness_ignored_accesses :
    locate Params.standard 0x0018#14 = .unmapped ∧ locate Params.standard 0x001F#14 = .unmapped ∧
    locate Params.standard 0x0030#14 = .unmapped ∧ locate Params.standard 0x003F#14 = .unmapped ∧
    locate Params.standard 0x0050#14 = .unmapped ∧ locate Params.standard 0x00FF#14 = .unmapped ∧
    locate Params.standard 0x0110#14 = .unmapped ∧ locate Params.standard 0x0FFF#14 = .unmapped ∧
    locate Params.standard 0x1003#14 = .unmapped ∧ locate Params.standard 0x10FF#14 = .unmapped ∧
    locate Params.standard 0x1100#14 = .unmapped ∧ locate Params.standard 0x1FFF#14 = .unmapped ∧
    locate Params.standard 0x2200#14 = .unmapped ∧ locate Params.standard 0x3FFF#14 = .unmapped ∧
    State.reset.params.legal = true ∧
    locate Params.standard 0x0001#14 = .status ∧ locate Params.standard 0x0005#14 = .skipCount ∧
    locate Params.standard 0x0007#14 = .clsResult ∧ locate Params.standard 0x0011#14 = .unitCount ∧
    locate Params.standard 0x0014#14 = .payPad ∧ locate Params.standard 0x0016#14 = .humX10 ∧
    locate Params.standard 0x0017#14 = .tempX10 ∧ locate Params.standard 0x2000#14 = .unitDur 0 ∧
    locate Params.standard 0x21FF#14 = .unitLevel 255 := by decide +kernel

/-- RegisterWritesReadBackTheirFields: an unlocked state (shaped by `lab_shaped`), and each clause at a
bound. -/
theorem witness_read_back :
    (lab 0#4 0 0 0).rep.status.validated = false ∧
    hostRead (hostWrite (lab 0#4 0 0 0) 0x0010#14 0xFFFFFFFF#32) 0x0010#14 = 0xFFFFFFFF#32 ∧
    hostRead (hostWrite (lab 0#4 0 0 0) 0x000A#14 0xFFFFFFFF#32) 0x000A#14 = 0xF#32 ∧
    hostRead (hostWrite (lab 0#4 0 0 0) 0x002E#14 0xFFFFFFFF#32) 0x002E#14 = 3#32 ∧
    hostRead (hostWrite (lab 0#4 0 0 0) 0x004F#14 0xFFFFFFFF#32) 0x004F#14 = 0xFFFFFFFF#32 ∧
    hostRead (hostWrite (lab 0#4 0 0 0) 0x10FE#14 0xFFFFFFFF#32) 0x10FE#14 = 3#32 ∧
    hostRead (hostWrite (lab 0#4 0 0 0) 0x0015#14 0xFFFFFFFF#32) 0x0015#14 = 0xFFFFFFFF#32 ∧
    hostRead (hostWrite (lab 0#4 0 0 0) 0x010F#14 0xFFFFFFFF#32) 0x010F#14 = 0xFF#32 := by decide +kernel

/-- HostReadsDeliverTheArrayEntries and RegisterWritesStoreTheirFields: the last entry of each array of a
state that `lab_shaped` says is shaped, unlocked. -/
theorem witness_array_entries :
    (lab 0#4 0 0 0).cfg.startPat[7]? = some ⟨.either, 1#32⟩ ∧
    (lab 0#4 0 0 0).cfg.stopPat[7]? = some ⟨.either, 1#32⟩ ∧
    (lab 0#4 0 0 0).out.frame[15]? = some 0#8 ∧
    (lab 0#4 0 0 0).inp.raw[63]? = some ⟨50#32, 70#32, .low, .high⟩ ∧
    (lab 0#4 0 0 0).work.units[255]? = some ⟨.high, 50#32⟩ ∧
    7 < (lab 0#4 0 0 0).params.patCap ∧ 63 < (lab 0#4 0 0 0).params.rawCap ∧
    15 < (lab 0#4 0 0 0).params.frameCap ∧ (lab 0#4 0 0 0).rep.status.validated = false := by
  decide +kernel

/-- Rule R162's example: the bits 1,0,0,0,0,0,0,0 give 0x80 MSB-first and 0x01 LSB-first. -/
theorem test_bit_orders :
    ((lab 0#4 0 0 0).putBit .msb 0 true).frameAt 0 = 0x80#8 ∧
    ((lab 0#4 0 0 0).putBit .lsb 0 true).frameAt 0 = 0x01#8 := by decide

/-- RegisterWritesLeaveOtherWordsAlone: two words of one RAW entry. -/
theorem witness_other_words : (0x1000#14 : Addr) ≠ 0x1001#14 := by decide

/-- A locked frame. -/
def lockedFrame : State := { labFrame 0#4 40 [1#8] with rep.status.validated := true }

/-- LockedFrameIgnoresHostWrites: BIT_COUNT, the first and the last frame byte. -/
theorem witness_locked :
    lockedFrame.params.legal = true ∧ lockedFrame.rep.status.validated = true ∧
    (0x0015#14 : Addr).toNat = 0x015 ∧
    0x100 ≤ (0x0100#14 : Addr).toNat ∧ (0x010F#14 : Addr).toNat < 0x100 + lockedFrame.params.frameCap := by
  decide

/-- ClassificationAtTheWindowBounds, clause by clause: BASE = 100 with TOL = 20 and with TOL = 33. -/
theorem witness_window_bounds :
    classify 120#32 100#32 20#32 = .single ∧ classify 80#32 100#32 20#32 = .single ∧
    classify 121#32 100#32 20#32 = .invalid ∧ classify 134#32 100#32 33#32 = .double ∧
    classify 1#32 0#32 0#32 = .invalid ∧ classify 240#32 100#32 20#32 = .double ∧
    classify 241#32 100#32 20#32 = .invalid := by decide

/-- The four statements about NORMALIZE: a full capture, strict and lenient. -/
theorem witness_normalize :
    (lab 0b0001#4 64 0 0).shaped ∧ ¬ (lab 0b0001#4 64 0 0).misconfigured .normalize ∧
    (lab 0b1001#4 64 0 0).shaped ∧ ¬ (lab 0b1001#4 64 0 0).misconfigured .normalize ∧
    (lab 0b1001#4 64 0 0).lenient = true := by
  refine ⟨lab_shaped .., ?_, lab_shaped .., ?_, rfl⟩ <;> simp only [State.misconfigured] <;> decide

/-- EmittedPulsesLieInTheSingleWindow and SplittingDropsOnlyTheRemainder: a run without error that emits. -/
theorem witness_normalize_emits :
    after (exec .normalize (lab 0b0001#4 2 0 0)) (fun t => (t.rep.status.errKind, decide (3 < t.unitCount))) =
      some (.noError, true) := by decide

/-- MatchReportsTheFirstMismatch, its three clauses: too short, a start entry, a stop entry. -/
theorem witness_match_fails :
    (let s : State := { labUnits 0b0001#4 1 0 0 Pad.zero 0 with cfg.startLen := 1#32, cfg.stopLen := 1#32 }
     ¬ s.misconfigured .matchPreamble ∧ ¬ s.startLen + s.stopLen ≤ s.unitCount) ∧
    (let s : State :=
      { labUnits 0b0001#4 1 0 0 Pad.zero 0 with cfg.startLen := 1#32, cfg.startPat := [⟨.high, 0#32⟩] }
     ¬ s.misconfigured .matchPreamble ∧ s.startLen + s.stopLen ≤ s.unitCount ∧ 0 < s.startLen ∧ ¬ s.startOk 0) ∧
    (let s : State :=
      { labUnits 0b0001#4 3 0 0 Pad.zero 0 with
        cfg.startLen := 1#32, cfg.stopLen := 2#32, cfg.stopPat := [⟨.high, 0#32⟩, ⟨.high, 0#32⟩] }
     ¬ s.misconfigured .matchPreamble ∧ s.startLen + s.stopLen ≤ s.unitCount ∧ s.startOk 0 ∧ s.stopOk 0 ∧
       1 < s.stopLen ∧ ¬ s.stopOk 1) := by
  simp only [State.misconfigured, ← badPatterns_iff]
  decide

/-- MatchWritesThePayloadWindow: an odd rest without a stop pattern, and the empty rest. -/
theorem witness_match_succeeds :
    (let s : State := { labUnits 0b0001#4 4 0 0 Pad.zero 0 with cfg.startLen := 1#32 }
     ¬ s.misconfigured .matchPreamble ∧ s.startLen + s.stopLen ≤ s.unitCount ∧ s.startOk 0 ∧
       (s.unitCount - s.startLen - s.stopLen) % 2 = 1) ∧
    (let s : State := { labUnits 0b0001#4 2 0 0 Pad.zero 0 with cfg.startLen := 1#32, cfg.stopLen := 1#32 }
     ¬ s.misconfigured .matchPreamble ∧ s.startLen + s.stopLen = s.unitCount ∧ s.startOk 0 ∧ s.stopOk 0) := by
  simp only [State.misconfigured, ← badPatterns_iff]
  decide

/-- AssembleDhtDecodesFortySymbols: exactly 40 symbols left, and one too few (shaped by `lab_shaped`). -/
theorem witness_assemble_dht :
    Instr.assembleDht.wellFormed (lab 0#4 43 3 0).cfg.ctrl = true ∧
    ¬ (lab 0#4 43 3 0).misconfigured .assembleDht ∧
    (lab 0#4 43 3 0).rawSkipHead + 40 ≤ (lab 0#4 43 3 0).symCount ∧
    ¬ (lab 0#4 42 3 0).misconfigured .assembleDht ∧
    (lab 0#4 42 3 0).symCount < (lab 0#4 42 3 0).rawSkipHead + 40 := by
  simp only [State.misconfigured]
  decide

/-- AssemblePulseDistanceDecodesTheDataBits: exactly NUM_DATA_BITS symbols left, and one too
few (shaped by `lab_shaped`). -/
theorem witness_assemble_pd :
    Instr.assemblePd.wellFormed (lab 0b0010#4 33 1 32).cfg.ctrl = true ∧
    ¬ (lab 0b0010#4 33 1 32).misconfigured .assemblePd ∧
    (lab 0b0010#4 33 1 32).rawSkipHead + (lab 0b0010#4 33 1 32).numDataBits ≤ (lab 0b0010#4 33 1 32).symCount ∧
    ¬ (lab 0b0010#4 32 1 32).misconfigured .assemblePd ∧
    (lab 0b0010#4 32 1 32).symCount < (lab 0b0010#4 32 1 32).rawSkipHead + (lab 0b0010#4 32 1 32).numDataBits := by
  simp only [State.misconfigured]
  decide

/-- AssembleManchesterFollowsItsTable: an even payload with the length check off and with it
met, an odd payload, a pair count that is not NUM_DATA_BITS. -/
theorem witness_manchester_states :
    (labUnits 0b0001#4 4 0 4 Pad.zero 0).inv ∧ (labUnits 0b0001#4 4 0 4 Pad.zero 2).inv ∧
    (labUnits 0b0001#4 3 0 3 Pad.zero 0).inv ∧ (labUnits 0b0001#4 4 0 4 Pad.zero 3).inv :=
  ⟨⟨labUnits_shaped .., by decide, by decide, by decide, by decide⟩,
    ⟨labUnits_shaped .., by decide, by decide, by decide, by decide⟩,
    ⟨labUnits_shaped .., by decide, by decide, by decide, by decide⟩,
    ⟨labUnits_shaped .., by decide, by decide, by decide, by decide⟩⟩

theorem witness_manchester_clauses :
    Instr.assembleMan.wellFormed (labUnits 0b0001#4 4 0 4 Pad.zero 0).cfg.ctrl = true ∧
    (labUnits 0b0001#4 4 0 4 Pad.zero 0).payCount % 2 = 0 ∧ (labUnits 0b0001#4 4 0 4 Pad.zero 0).numDataBits = 0 ∧
    (labUnits 0b0001#4 4 0 4 Pad.zero 2).payCount / 2 = (labUnits 0b0001#4 4 0 4 Pad.zero 2).numDataBits ∧
    (labUnits 0b0001#4 3 0 3 Pad.zero 0).payCount % 2 = 1 ∧
    (labUnits 0b0001#4 4 0 4 Pad.zero 3).payCount / 2 ≠ (labUnits 0b0001#4 4 0 4 Pad.zero 3).numDataBits ∧
    (labUnits 0b0001#4 4 0 4 Pad.zero 3).numDataBits ≠ 0 := by decide

/-- AssembleDifferentialFollowsItsTable: an even payload with the length check off and with it
met, an odd payload, a pair count that is not NUM_DATA_BITS. -/
theorem witness_differential_states :
    (labUnits 0b0101#4 4 0 4 Pad.zero 0).inv ∧ (labUnits 0b0101#4 4 0 4 Pad.zero 2).inv ∧
    (labUnits 0b0101#4 3 0 3 Pad.zero 0).inv ∧ (labUnits 0b0101#4 4 0 4 Pad.zero 3).inv :=
  ⟨⟨labUnits_shaped .., by decide, by decide, by decide, by decide⟩,
    ⟨labUnits_shaped .., by decide, by decide, by decide, by decide⟩,
    ⟨labUnits_shaped .., by decide, by decide, by decide, by decide⟩,
    ⟨labUnits_shaped .., by decide, by decide, by decide, by decide⟩⟩

theorem witness_differential_clauses :
    Instr.assembleDman.wellFormed (labUnits 0b0101#4 4 0 4 Pad.zero 0).cfg.ctrl = true ∧
    (labUnits 0b0101#4 4 0 4 Pad.zero 0).payCount % 2 = 0 ∧ (labUnits 0b0101#4 4 0 4 Pad.zero 0).numDataBits = 0 ∧
    (labUnits 0b0101#4 4 0 4 Pad.zero 2).payCount / 2 = (labUnits 0b0101#4 4 0 4 Pad.zero 2).numDataBits ∧
    (labUnits 0b0101#4 3 0 3 Pad.zero 0).payCount % 2 = 1 ∧
    (labUnits 0b0101#4 4 0 4 Pad.zero 3).payCount / 2 ≠ (labUnits 0b0101#4 4 0 4 Pad.zero 3).numDataBits ∧
    (labUnits 0b0101#4 4 0 4 Pad.zero 3).numDataBits ≠ 0 := by decide

/-- AssembledBitCountFitsTheFrame: each row selected, in a state of the invariants that it accepts and
completes in. -/
theorem witness_assembled_bits :
    (lab 0#4 40 0 0).inv ∧ (lab 0b0010#4 64 0 64).inv ∧
    Instr.assembleDht.wellFormed (lab 0#4 40 0 0).cfg.ctrl = true ∧
    Instr.assemblePd.wellFormed (lab 0b0010#4 64 0 64).cfg.ctrl = true :=
  ⟨⟨lab_shaped .., by decide, by decide, by decide, by decide⟩,
    ⟨lab_shaped .., by decide, by decide, by decide, by decide⟩, by decide, by decide⟩

theorem witness_assembled_bits_accepted :
    ¬ (lab 0#4 40 0 0).misconfigured .assembleDht ∧ ¬ (lab 0b0010#4 64 0 64).misconfigured .assemblePd ∧
    ¬ (labUnits 0b0001#4 4 0 4 Pad.zero 0).misconfigured .assembleMan ∧
    ¬ (labUnits 0b0101#4 4 0 4 Pad.zero 2).misconfigured .assembleDman := by
  simp only [State.misconfigured]
  decide

/-- PayloadLevelsComeFromTheWindow: a stored last pulse and a pad pulse. -/
theorem witness_payload_levels :
    3 < (labUnits 0b0001#4 4 0 4 Pad.zero 0).payCount ∧
    3 < (labUnits 0b0001#4 3 0 4 ⟨true, .high⟩ 0).payCount ∧
    (labUnits 0b0001#4 3 0 4 ⟨true, .high⟩ 0).payLevel 3 = .high := by decide

/-- ValidateDhtChecksTheSum: 39 bits, 40 bits that check, 40 bits that do not. -/
theorem witness_validate_dht :
    Instr.validateDht.wellFormed (labFrame 0#4 39 []).cfg.ctrl = true ∧ (labFrame 0#4 39 []).bitCount ≠ 40 ∧
    (labFrame 0#4 40 []).bitCount = 40 ∧ (labFrame 0#4 40 [1#8]).bitCount = 40 := by decide

/-- ChecksummedReadingsAreRecovered: humidity 999 with temperature -999, the ends of the ranges. -/
theorem witness_readings :
    (let s := labFrame 0#4 40 [0x03#8, 0xE7#8, 0x83#8, 0xE7#8, 0x54#8]
     Instr.validateDht.wellFormed s.cfg.ctrl = true ∧ s.bitCount = 40 ∧
     (s.frameAt 0).toNat = 999 / 256 ∧ (s.frameAt 1).toNat = 999 % 256 ∧
     (s.frameAt 2).toNat = 999 / 256 + 128 ∧ (s.frameAt 3).toNat = 999 % 256 ∧
     (s.frameAt 4).toNat = (999 / 256 + 999 % 256 + (999 / 256 + 128) + 999 % 256) % 256) ∧
    (-999 : Int).natAbs = 999 := by decide

/-- ValidateNecIsAnAdvisoryOrTest and ValidateNonePassesTheFrameThrough: the rows selected, and a bit
count on both sides of 32. -/
theorem witness_validate_others :
    Instr.validateNec.wellFormed (labFrame 0b0010#4 32 []).cfg.ctrl = true ∧
    (labFrame 0b0010#4 32 []).bitCount = 32 ∧ (labFrame 0b0010#4 31 []).bitCount ≠ 32 ∧
    Instr.validateNone.wellFormed (labFrame 0b0001#4 0 []).cfg.ctrl = true ∧
    Instr.validateNone.wellFormed (labFrame 0b0101#4 0 []).cfg.ctrl = true := by decide

/-- DecodeSkipsExtraneousCaptures: one symbol more than expected, and one fewer. -/
theorem witness_decode_skips :
    (let s : State := { lab 0#4 41 0 0 with cfg.expectedSyms := 40#32 }
     ¬ s.misconfigured .decode ∧ ¬ s.gateOpen) ∧
    (let s : State := { lab 0b0001#4 39 0 0 with cfg.expectedSyms := 40#32 }
     ¬ s.misconfigured .decode ∧ ¬ s.gateOpen) := by
  simp only [State.misconfigured, ← badPatterns_iff, ← gateSkips_iff]
  decide

/-- DecodeAgreesWithTheStagedCommands: an open gate under each policy, with the check disabled or met
(shaped by `lab_shaped`). -/
theorem witness_decode_runs :
    ¬ (lab 0b0001#4 2 0 0).misconfigured .decode ∧ (lab 0b0001#4 2 0 0).gateOpen ∧
    (lab 0b0001#4 2 0 0).policy = .manchester ∧
    ¬ (lab 0b0010#4 2 0 2).misconfigured .decode ∧ (lab 0b0010#4 2 0 2).gateOpen ∧
    (lab 0b0010#4 2 0 2).policy = .pulseDistance ∧
    (let s : State := { lab 0#4 40 0 0 with cfg.expectedSyms := 40#32 }
     ¬ s.misconfigured .decode ∧ s.gateOpen ∧ s.policy = .dhtMarkSpace) := by
  simp only [State.misconfigured, State.gateOpen, ← badPatterns_iff]
  decide

/-- DecodeDependsOnlyOnConfigurationAndInputs: two states that differ in what an earlier decode left
(shaped by `lab_shaped`), and the commands complete. -/
theorem witness_decode_depends :
    (let s := lab 0#4 40 0 0
     let s' : State := { s with out.humX10 := 7#32 }
     s'.params = s.params ∧ s'.cfg = s.cfg ∧ s'.inp = s.inp) ∧
    ¬ (lab 0#4 40 0 0).misconfigured .decode ∧
    after (exec .decode (lab 0#4 40 0 0)) (·.rep.status.done) = some true := by
  refine ⟨⟨rfl, rfl, rfl⟩, ?_, by decide⟩
  simp only [State.misconfigured, ← badPatterns_iff]
  decide

/-- CommandsAndWritesAreIdempotent and CommandsKeepWhatLiesUpstream: a command of each kind completes in
a shaped state. -/
theorem witness_commands_complete :
    after (exec .normalize (lab 0b0001#4 2 0 0)) (·.rep.status.done) = some true ∧
    after (exec .nop (lab 0b0001#4 2 0 0)) (·.rep.status.done) = some false ∧
    after (exec .decode (lab 0b0001#4 2 0 0)) (·.rep.status.done) = some true ∧
    ({ State.reset with pending := [.read 1#14, .read 1#14] } : State).pending = [.read 1#14, .read 1#14] := by
  decide

/-- A state with a recorded error and `e` pending. -/
def failed (e : HostEvent) : State := { State.reset.raise gateError with pending := [e] }

/-- ErrorsStayUntilTheNextStageCommand: a recorded error, and each kind of event that leaves it. -/
theorem witness_errors_stay :
    (failed (.read 1#14)).rep.status.errKind = .incompleteFrame ∧
    after (step (failed (.read 1#14))) (·.rdata) = some (some 0x34#32) ∧
    after (step (failed (.write 8#14 5#32))) (·.cfg.base) = some 5#32 ∧
    decodeWord (failed (.write cmdAddr 0#32)).cfg.ctrl 0#32 = .instr .nop ∧
    decodeWord (failed (.write cmdAddr 2#32)).cfg.ctrl 2#32 = .instr .classify ∧
    after (step (failed (.write cmdAddr 9#32))) (·.rep.status.cmdErr) = some .illegalWord := by decide

end Sys2Proof.Tests
end

/-! The capacity parameters of one core (00_scope.md rule R5). -/

namespace Sys2Proof.Machine

@[simp] theorem State.powerOn_params (p : Params) (fill : Nat → Word) :
    (State.powerOn p fill).params = p := rfl

@[simp] theorem State.reset_params : State.reset.params = Params.standard :=
  State.powerOn_params Params.standard _

/-- Settles O8: the range of legal capacities is `legal_iff`, the derived capacities are their
definitions, and the reset state carries the capacities it was powered on with. -/
theorem legalCapacitiesAreThoseOfTheScope : Obligations.LegalCapacitiesAreThoseOfTheScope := by
  refine ⟨fun p => ⟨legal_iff p, ?unitCap, ?frameCap⟩, ?defaults⟩
  case unitCap => rfl
  case frameCap => rfl
  case defaults => exact State.reset_params

end Sys2Proof.Machine

/-! ## What the stages need of the clears before them

The clear procedures of listing L45 leave the registers that a stage counts in at their empty values;
each stage keeps the invariants from there. -/

namespace Sys2Proof.Machine

/-- The bit error log is empty (rule R35). -/
def State.logEmpty (s : State) : Prop := s.rep.bitErrCount = 0#32 ∧ s.rep.bitErrFirst = -1#32

/-- The payload window is empty and has no pad (rule R39). -/
def State.payloadEmpty (s : State) : Prop :=
  s.work.payStart = 0#32 ∧ s.work.payCount = 0#32 ∧ s.work.payPad = Pad.zero

/-- Nothing is normalized: no unit pulses, no skips, and so no payload. -/
def State.unitsEmpty (s : State) : Prop :=
  s.work.unitCount = 0#32 ∧ s.rep.skipCount = 0#32 ∧ s.payloadEmpty

/-- The capture fits the raw buffer: the row of NORMALIZE in table T221. -/
def State.captureFits (s : State) : Prop := s.symCount ≤ s.params.rawCap

theorem captureFits_of_badCapture {s : State} (h : s.badCapture = false) : s.captureFits := by
  simpa [State.badCapture, State.captureFits] using h

/-- Whether the capture fits depends on the inputs and the capacities only. -/
theorem captureFits_congr {s t : State} (hi : t.inp = s.inp) (hp : t.params = s.params) :
    t.captureFits ↔ s.captureFits := by
  simp only [State.captureFits, State.symCount, hi, hp]

theorem policy_congr {s t : State} (hc : t.cfg = s.cfg) : t.policy = s.policy := by
  simp only [State.policy, hc]

theorem windowInv_of_payloadEmpty {s : State} (h : s.payloadEmpty) (hu : s.unitCount ≤ s.params.unitCap) :
    s.windowInv := by
  obtain ⟨hstart, hcount, hpad⟩ := h
  simp [State.windowInv, State.payStart, State.payCount, hstart, hcount, hpad, Pad.zero, hu]

theorem legal_of_inv {s : State} (h : s.inv) : s.params.legal = true := h.1.1

/-! ## The clear procedures keep the invariants -/

theorem clearErr_inv {s : State} (h : s.inv) : s.clearErr.inv := by
  obtain ⟨hshape, hwindow, hlog, -, hresult⟩ := h
  exact ⟨hshape, hwindow, hlog, by simp [State.errorInv], hresult⟩

theorem clearValidation_resultInv (s : State) : s.clearValidation.resultInv := by
  simp [State.resultInv]

theorem clearValidation_inv {s : State} (h : s.inv) : s.clearValidation.inv := by
  obtain ⟨hshape, hwindow, hlog, herror, -⟩ := h
  exact ⟨hshape, hwindow, hlog, herror, clearValidation_resultInv s⟩

theorem clearFrame_logEmpty (s : State) : s.clearFrame.logEmpty := ⟨rfl, rfl⟩

theorem clearFrame_inv {s : State} (h : s.inv) : s.clearFrame.inv := by
  obtain ⟨hshape, hwindow, ⟨-, -, hskip⟩, herror, -⟩ := h
  exact ⟨clearFrame_shaped hshape, hwindow, ⟨by simp, by simp, hskip⟩, herror, clearValidation_resultInv s⟩

theorem clearPayload_payloadEmpty (s : State) : s.clearPayload.payloadEmpty := ⟨rfl, rfl, rfl⟩

theorem clearPayload_inv {s : State} (h : s.inv) : s.clearPayload.inv := by
  obtain ⟨hshape, ⟨hunits, -⟩, hlog, herror, hresult⟩ := clearFrame_inv h
  exact ⟨hshape, windowInv_of_payloadEmpty (clearPayload_payloadEmpty s) hunits, hlog, herror, hresult⟩

theorem clearUnits_unitsEmpty (s : State) : s.clearUnits.unitsEmpty := ⟨rfl, rfl, rfl, rfl, rfl⟩

theorem clearUnits_inv {s : State} (h : s.inv) : s.clearUnits.inv := by
  obtain ⟨hshape, -, ⟨hfirst, hcount, -⟩, herror, hresult⟩ := clearPayload_inv h
  exact ⟨hshape, windowInv_of_payloadEmpty (clearPayload_payloadEmpty s) (Nat.zero_le _),
    ⟨hfirst, hcount, by simp⟩, herror, hresult⟩

/-- ClearPipeline leaves nothing for the invariants to depend on but the shape. -/
theorem clearPipeline_inv {s : State} (h : s.shaped) : s.clearPipeline.inv :=
  ⟨clearPipeline_shaped h, windowInv_of_payloadEmpty ⟨rfl, rfl, rfl⟩ (Nat.zero_le _),
    by simp [State.logInv], by simp [State.errorInv], by simp [State.resultInv]⟩

theorem clearPipeline_unitsEmpty (s : State) : s.clearPipeline.unitsEmpty := ⟨rfl, rfl, rfl, rfl, rfl⟩

theorem clearPipeline_logEmpty (s : State) : s.clearPipeline.logEmpty := ⟨rfl, rfl⟩

/-! ## Raising an error -/

/-- `e` is an error that a stage raises: a kind and a unit that table T241 pairs, and the second half
only with InvalidPulseWidth. -/
def DecodeError.ofStage (e : DecodeError) : Prop :=
  e.kind ≠ .noError ∧ e.unit ≠ .noUnit ∧ e.unit ≠ .classifier ∧ e.unit ≠ .frameGate ∧
    (e.kind = .invalidPulseWidth ↔ e.unit = .normalizer) ∧
    (e.kind = .checksumMismatch → e.unit = .validator) ∧
    (e.half = .second → e.kind = .invalidPulseWidth)

theorem invalidWidthAt_ofStage (i : Nat) (h : Half) : (invalidWidthAt i h).ofStage := by
  simp [DecodeError.ofStage, invalidWidthAt]

theorem mismatchAt_ofStage (j : Nat) : (mismatchAt j).ofStage := by
  simp [DecodeError.ofStage, mismatchAt]

theorem assemblerError_ofStage (x : Word) : (assemblerError x).ofStage := by
  simp [DecodeError.ofStage, assemblerError]

theorem validatorError_ofStage {kind : ErrKind} (h : kind = .incompleteFrame ∨ kind = .checksumMismatch) :
    (validatorError kind).ofStage := by
  rcases h with rfl | rfl <;> simp [DecodeError.ofStage, validatorError]

/-- Without an error the capture was not skipped. -/
theorem not_skipped_of_noError {s : State} (h : s.errorInv) (hn : s.noError) :
    s.rep.status.skipped = false := by
  obtain ⟨hunit, -, -, -, -, hgate, -⟩ := h
  simpa [hunit.mp hn] using hgate

theorem raise_errorInv {e : DecodeError} {s : State} (he : e.ofStage) (h : s.errorInv) (hn : s.noError) :
    (s.raise e).errorInv := by
  obtain ⟨hkind, hunit, hcls, hgate, hnorm, hsum, hhalf⟩ := he
  have hskip := not_skipped_of_noError h hn
  exact ⟨by simp [hkind, hunit], fun h => absurd h hkind, hcls, hnorm, hsum, by simp [hgate, hskip], hhalf⟩

/-- The error of a stage keeps the invariants when no error stands yet (rules R34 and R244). -/
theorem raise_inv {e : DecodeError} {s : State} (he : e.ofStage) (h : s.inv) (hn : s.noError) :
    (s.raise e).inv := by
  obtain ⟨hshape, hwindow, hlog, herror, hresult⟩ := h
  exact ⟨hshape, hwindow, hlog, raise_errorInv he herror hn, hresult⟩

/-! ## U2 -/

@[simp] theorem storeFrom_length (us : List UnitPulse) (n : Nat) (es : List UnitPulse) :
    (storeFrom us n es).length = us.length := by
  induction es generalizing us n with
  | nil => rfl
  | cons e es ih => simp [storeFrom, ih]

/-- NORMALIZE gets through some of the halves, all of them or all before one that fails. -/
theorem normalizeStage_cases {s : State} (hb : s.unitCount + 4 * s.symCount < 2 ^ 32) :
    ∃ ok : List (Nat × Half), ok.length ≤ 2 * s.symCount ∧
      (normalizeStage s = s.afterHalves ok ∨
        ∃ p : Nat × Half, normalizeStage s = (s.afterHalves ok).raise (invalidWidthAt p.1 p.2)) := by
  have hlen := halvesOf_length s.symCount
  have heq := normalizeHalves_eq (halvesOf s.symCount) s (by omega)
  unfold normalizeStage
  split at heq
  · exact ⟨_, hlen.le, .inl heq⟩
  · exact ⟨_, (takeWhile_length_le _ _).trans hlen.le, .inr ⟨_, heq⟩⟩

/-- The unit sequence and the skip count of a walk fit (rules R126 and R47 (4)). -/
theorem afterHalves_inv {s : State} (h : s.inv) (hempty : s.unitsEmpty) {ok : List (Nat × Half)}
    (hok : ok.length ≤ 2 * s.params.rawCap) : (s.afterHalves ok).inv := by
  obtain ⟨hshape, -, ⟨hfirst, hcount, -⟩, herror, hresult⟩ := h
  obtain ⟨hunits, hskips, hpayload⟩ := hempty
  have hemits := length_flatMap_le ok s.halfEmits 2 (halfEmits_length s)
  have hcounted := List.countP_le_length (p := s.halfSkips) (l := ok)
  refine ⟨shaped_of hshape rfl rfl rfl rfl (storeFrom_length ..) rfl, ?_, ⟨hfirst, hcount, ?_⟩, herror,
    hresult⟩
  · refine windowInv_of_payloadEmpty hpayload ?_
    simp only [State.unitCount, State.afterHalves, hunits, Params.unitCap, BitVec.zero_add,
      BitVec.toNat_ofNat]
    exact (Nat.mod_le _ _).trans (by omega)
  · simp only [State.afterHalves, hskips, BitVec.zero_add, BitVec.toNat_ofNat]
    exact (Nat.mod_le _ _).trans (hcounted.trans hok)

theorem normalizeStage_inv {s : State} (h : s.inv) (hn : s.noError) (hempty : s.unitsEmpty)
    (hfits : s.captureFits) : (normalizeStage s).inv := by
  obtain ⟨-, -, hcap, -⟩ := (legal_iff _).mp (legal_of_inv h)
  have hzero : s.unitCount = 0 := congrArg BitVec.toNat hempty.1
  unfold State.captureFits at hfits
  obtain ⟨ok, hok, heq | ⟨p, heq⟩⟩ := normalizeStage_cases (s := s) (by omega)
  all_goals
    have hwalk : (s.afterHalves ok).inv := afterHalves_inv h hempty (by omega)
    rw [heq]
  · exact hwalk
  · exact raise_inv (invalidWidthAt_ofStage ..) hwalk hn

/-- NORMALIZE writes neither the payload window nor the bit error log. -/
theorem normalizeStage_keeps_downstream (s : State) :
    (s.payloadEmpty → (normalizeStage s).payloadEmpty) ∧ (s.logEmpty → (normalizeStage s).logEmpty) := by
  unfold normalizeStage
  obtain ⟨_, _, _, -, h | ⟨_, h⟩⟩ := normalizeHalves_outcome (halvesOf s.symCount) s
  all_goals
    rw [h]
    exact ⟨id, id⟩

/-! ## U3 -/

/-- The window that MATCH writes lies in the unit sequence, the pad apart (rules R142 and R143). -/
theorem writePayload_windowInv {s : State} (h : s.windowInv) (hempty : s.payloadEmpty)
    (hlegal : s.params.legal = true) (hfit : s.startLen + s.stopLen ≤ s.unitCount) :
    s.writePayload.windowInv := by
  obtain ⟨-, -, hpad⟩ := hempty
  obtain ⟨-, -, hcap, -⟩ := (legal_iff _).mp hlegal
  have hunits : s.unitCount ≤ 4 * s.params.rawCap := h.1
  simp only [State.unitCount, State.startLen, State.stopLen] at hunits hfit
  by_cases hodd : s.stopLen = 0 ∧ (s.unitCount - s.startLen - s.stopLen) % 2 = 1
  · rw [show s.writePayload = _ from if_pos hodd]
    simp only [State.unitCount, State.startLen, State.stopLen] at hodd
    refine ⟨h.1, ?_, fun _ => ?_, by simp⟩ <;>
      simp only [State.payStart, State.payCount, State.unitCount, State.startLen, State.stopLen,
        BitVec.toNat_ofNat, if_true] <;> omega
  · rw [show s.writePayload = _ from if_neg hodd]
    refine ⟨h.1, ?_, by simp [hpad, Pad.zero], by simp [hpad, Pad.zero]⟩
    simp only [State.payStart, State.payCount, State.unitCount, State.startLen, State.stopLen,
      BitVec.toNat_ofNat]
    omega

theorem matchStage_inv {s : State} (h : s.inv) (hn : s.noError) (hempty : s.payloadEmpty) :
    (matchStage s).inv := by
  obtain ⟨j, heq⟩ | ⟨heq, hfit⟩ := matchStage_outcome s
  · rw [heq]
    exact raise_inv (mismatchAt_ofStage j) h hn
  · obtain ⟨hshape, hwindow, hrest⟩ := h
    have hwritten := writePayload_windowInv hwindow hempty hshape.1 hfit
    rw [heq]
    rw [writePayload_eq] at hwritten ⊢
    exact ⟨hshape, hwritten, hrest⟩

theorem matchStage_keeps_log {s : State} (h : s.logEmpty) : (matchStage s).logEmpty := by
  obtain ⟨j, heq⟩ | ⟨heq, -⟩ := matchStage_outcome s <;> rw [heq]
  · exact h
  · rw [writePayload_eq]
    exact h

/-! ## U4 -/

/-- `t` is what an assembler leaves from `s`: an error of U4, or at most `most` bits placed. -/
def AssemblesAtMost (most : Nat) (s t : State) : Prop :=
  (∃ x, t = s.raise (assemblerError x)) ∨
    ∃ (order : BitOrder) (os : List BitOutcome), os.length ≤ most ∧ t = s.assembled order os

theorem assembleRaw_atMost {most n : Nat} (order : BitOrder) (f : RawSymbol → BitOutcome) {s : State}
    (h : s.rawSkipHead + n ≤ s.symCount → n ≤ most) : AssemblesAtMost most s (assembleRaw order n f s) := by
  unfold assembleRaw
  split
  next => exact .inl ⟨_, rfl⟩
  next hlong => exact .inr ⟨order, _, by simpa using h (by omega), rfl⟩

theorem assemblePairs_atMost {most : Nat} (f : Level → Level → BitOutcome) {s : State}
    (h : s.payCount % 2 = 0 → s.payCount / 2 ≤ most) : AssemblesAtMost most s (assemblePairs f s) := by
  unfold assemblePairs
  dsimp only
  split
  next => exact .inl ⟨_, rfl⟩
  next heven =>
    split
    · exact .inl ⟨_, rfl⟩
    · exact .inr ⟨.msb, _, by simpa using h (by omega), rfl⟩

/-- A payload of pulse pairs, the pad among them or not, makes at most half as many bits as UNIT has
entries. -/
theorem payload_pairs_le {s : State} (h : s.windowInv) (heven : s.payCount % 2 = 0) :
    s.payCount / 2 ≤ 2 * s.params.rawCap := by
  obtain ⟨hunits, hwindow, -⟩ := h
  simp only [Params.unitCap] at hunits
  split at hwindow <;> omega

/-- The assembler that CTRL selects places at most two bits per raw symbol of the capacity. -/
theorem assembleStage_atMost {s : State} (hlegal : s.params.legal = true) (hwindow : s.windowInv)
    (hpolicy : s.policy ≠ .reserved) (hfits : s.policy = .pulseDistance → s.captureFits) :
    AssemblesAtMost (2 * s.params.rawCap) s (assembleStage s) := by
  obtain ⟨-, hcap, -⟩ := (legal_iff _).mp hlegal
  unfold State.captureFits at hfits
  unfold assembleStage
  split
  next => exact assembleRaw_atMost _ _ fun _ => by simp only [Config.dhtBits]; omega
  next => split <;> exact assemblePairs_atMost _ (payload_pairs_le hwindow)
  next hdistance => exact assembleRaw_atMost _ _ fun hlong => by have := hfits hdistance; omega
  next hreserved => exact absurd hreserved hpolicy

/-- The log of at most 2^32 - 1 bits is empty in both registers or in neither, and bounded by the bits. -/
theorem logOf_empty_fits (os : List BitOutcome) (hb : os.length < 2 ^ 32 - 1) :
    ((logOf os 0 (0#32, -1#32)).1 = 0#32 ↔ (logOf os 0 (0#32, -1#32)).2 = -1#32) ∧
      (logOf os 0 (0#32, -1#32)).1.toNat ≤ os.length := by
  have hcount := List.countP_le_length (p := fun o : BitOutcome => o.logged) (l := os)
  have hmod : os.countP (fun o => o.logged) % 2 ^ 32 = os.countP (fun o => o.logged) :=
    Nat.mod_eq_of_lt (by omega)
  rw [logOf_empty os 0 (by omega)]
  refine ⟨?_, by rwa [BitVec.toNat_ofNat, hmod]⟩
  cases hfind : os.findIdx? fun o => o.logged with
  | none =>
    rw [List.findIdx?_eq_none_iff] at hfind
    have hzero : os.countP (fun o => o.logged) = 0 := by simpa [List.countP_eq_zero] using hfind
    simp [hzero]
  | some i =>
    obtain ⟨hi, hlogged, -⟩ := List.findIdx?_eq_some_iff_getElem.mp hfind
    have hpos : 0 < os.countP (fun o => o.logged) :=
      List.countP_pos_iff.mpr ⟨_, List.getElem_mem hi, hlogged⟩
    simp only [Option.elim_some, ← BitVec.toNat_inj, BitVec.toNat_ofNat, BitVec.toNat_neg]
    omega

theorem assembled_inv {s : State} (h : s.inv) (hempty : s.logEmpty) (order : BitOrder)
    {os : List BitOutcome} (hb : os.length ≤ 2 * s.params.rawCap) : (s.assembled order os).inv := by
  obtain ⟨hshape, hwindow, ⟨-, -, hskip⟩, herror, hresult⟩ := h
  obtain ⟨hcount, hfirst⟩ := hempty
  obtain ⟨-, -, hcap, -⟩ := (legal_iff _).mp hshape.1
  obtain ⟨hboth, hbound⟩ := logOf_empty_fits os (by omega)
  rw [State.assembled, placeBits_eq, hcount, hfirst]
  exact ⟨shaped_of hshape rfl rfl rfl rfl rfl (packBits_length ..), hwindow,
    ⟨hboth, hbound.trans hb, hskip⟩, herror, hresult⟩

theorem AssemblesAtMost.inv {s t : State} (ht : AssemblesAtMost (2 * s.params.rawCap) s t) (h : s.inv)
    (hn : s.noError) (hempty : s.logEmpty) : t.inv := by
  obtain ⟨x, rfl⟩ | ⟨order, os, hos, rfl⟩ := ht
  · exact raise_inv (assemblerError_ofStage x) h hn
  · exact assembled_inv h hempty order hos

theorem assembleStage_inv {s : State} (h : s.inv) (hn : s.noError) (hempty : s.logEmpty)
    (hpolicy : s.policy ≠ .reserved) (hfits : s.policy = .pulseDistance → s.captureFits) :
    (assembleStage s).inv :=
  (assembleStage_atMost (legal_of_inv h) h.2.1 hpolicy hfits).inv h hn hempty

end Sys2Proof.Machine

/-! ## U5 and the readings -/

namespace Sys2Proof.Machine

/-- Two bytes joined into a word stay below the width of the upper byte and 8 bits. -/
theorem joined_bytes_lt {hi lo : Byte} {n : Nat} (hn : n ≤ 8) (h : hi.toNat < 2 ^ n) :
    ((hi.setWidth 32 <<< 8) ||| lo.setWidth 32 : Word).toNat < 2 ^ (n + 8) := by
  have hlo : lo.toNat < 2 ^ 8 := lo.isLt
  have hup : (2 : Nat) ^ n ≤ 2 ^ 8 := Nat.pow_le_pow_right (by omega) hn
  have hpow : (2 : Nat) ^ (n + 8) = 2 ^ n * 256 := by rw [Nat.pow_add]
  rw [BitVec.toNat_or]
  apply Nat.or_lt_two_pow <;>
    simp only [BitVec.toNat_shiftLeft, BitVec.toNat_setWidth, Nat.shiftLeft_eq] <;> omega

theorem humidity_le (b0 b1 : Byte) : (humidity b0 b1).toNat ≤ 65535 := by
  have := joined_bytes_lt (lo := b1) (le_refl 8) b0.isLt
  unfold humidity
  omega

theorem temperatureMagnitude_lt (b2 b3 : Byte) : (temperatureMagnitude b2 b3).toNat < 2 ^ 15 := by
  refine joined_bytes_lt (n := 7) (by omega) ?_
  rw [BitVec.toNat_and]
  exact Nat.and_lt_two_pow _ (by decide)

theorem temperature_bounds (b2 b3 : Byte) :
    -32767 ≤ (temperature b2 b3).toInt ∧ (temperature b2 b3).toInt ≤ 32767 := by
  have hmag := temperatureMagnitude_lt b2 b3
  have hint : (temperatureMagnitude b2 b3).toInt = (temperatureMagnitude b2 b3).toNat :=
    BitVec.toInt_eq_toNat_of_lt (by omega)
  have hneg : (-temperatureMagnitude b2 b3).toInt = -(temperatureMagnitude b2 b3).toNat := by
    rw [BitVec.toInt_neg_of_ne_intMin, hint]
    intro hmin
    rw [hmin] at hmag
    revert hmag
    decide
  unfold temperature
  split <;> omega

theorem writeReadings_inv {s : State} (h : s.inv) : s.writeReadings.inv := by
  obtain ⟨hshape, hwindow, hlog, herror, -⟩ := h
  exact ⟨hshape, hwindow, hlog, herror, fun _ => rfl, by simp, humidity_le .., temperature_bounds ..⟩

theorem validateDhtStage_inv {s : State} (h : s.inv) (hn : s.noError) : (validateDhtStage s).inv := by
  unfold validateDhtStage
  split
  next => exact raise_inv (validatorError_ofStage (.inl rfl)) h hn
  next =>
    have hread := writeReadings_inv h
    split
    · obtain ⟨hshape, hwindow, hlog, herror, -, hrest⟩ := hread
      exact ⟨hshape, hwindow, hlog, herror, fun _ => rfl, hrest⟩
    · exact raise_inv (validatorError_ofStage (.inr rfl)) hread hn

/-- Delivering a frame, whatever its check came to, keeps the invariants (rules R203 and R204). -/
theorem deliver_inv {s : State} (h : s.inv) (chk : Chk) (f0 f1 : Bool) :
    ({ s with
        rep.status.chk := chk, rep.status.necFail0 := f0, rep.status.necFail1 := f1
        rep.status.frameOk := true, rep.status.validated := true } : State).inv := by
  obtain ⟨hshape, hwindow, hlog, herror, -, hrest⟩ := h
  exact ⟨hshape, hwindow, hlog, herror, fun _ => rfl, hrest⟩

theorem validateNecStage_inv {s : State} (h : s.inv) : (validateNecStage s).inv := by
  unfold validateNecStage State.writeNecChecks
  dsimp only
  split <;> exact deliver_inv h ..

theorem validateNoneStage_inv {s : State} (h : s.inv) : (validateNoneStage s).inv := deliver_inv h ..

theorem validateStage_inv {s : State} (h : s.inv) (hn : s.noError) : (validateStage s).inv := by
  unfold validateStage
  split
  · exact validateDhtStage_inv h hn
  · exact validateNoneStage_inv h
  · exact validateNecStage_inv h
  · exact h

/-! ## DECODE -/

/-- The part of DECODE before ASSEMBLE: NORMALIZE and MATCH under Manchester (listing L226). -/
def decodeFront (s : State) : State :=
  if s.policy = .manchester then unlessError matchStage (normalizeStage s) else s

theorem decodeStages_eq (s : State) :
    decodeStages s = unlessError validateStage (unlessError assembleStage (decodeFront s)) := rfl

theorem unlessError_inv {stage : State → State} {s : State} (h : s.inv) (hs : s.noError → (stage s).inv) :
    (unlessError stage s).inv := by
  unfold unlessError
  split
  next hn => exact hs hn
  next => exact h

theorem decodeFront_keeps (s : State) : s.keptBy (decodeFront s) := by
  unfold decodeFront
  split
  · exact State.keptBy_trans (normalizeStage_keeps s) (unlessError_keeps matchStage_keeps _)
  · simp [State.keptBy, State.sameInputs]

theorem decodeFront_keeps_log {s : State} (h : s.logEmpty) : (decodeFront s).logEmpty := by
  have hnorm := (normalizeStage_keeps_downstream s).2 h
  unfold decodeFront unlessError
  split
  · split
    · exact matchStage_keeps_log hnorm
    · exact hnorm
  · exact h

theorem decodeFront_inv {s : State} (h : s.inv) (hn : s.noError) (hempty : s.unitsEmpty)
    (hfits : s.captureFits) : (decodeFront s).inv := by
  have hnorm := normalizeStage_inv h hn hempty hfits
  obtain ⟨-, -, hpayload⟩ := hempty
  unfold decodeFront
  split
  · exact unlessError_inv hnorm fun hn' =>
      matchStage_inv hnorm hn' ((normalizeStage_keeps_downstream s).1 hpayload)
  · exact h

/-- A skipped capture: the one error with SKIPPED, and nothing else written (rule R225). -/
theorem gate_inv {s : State} (h : s.inv) :
    (({ s with rep.status.skipped := true } : State).raise gateError).inv := by
  obtain ⟨hshape, hwindow, hlog, -, hresult⟩ := h
  exact ⟨hshape, hwindow, hlog, by simp [State.errorInv, gateError], hresult⟩

/-- The assembler of DECODE finds what the assembler of ASSEMBLE finds: an empty log and, under
PulseDistance, a capture that fits. -/
theorem decodeStage_inv {s : State} (h : s.inv) (hn : s.noError) (hempty : s.unitsEmpty) (hlog : s.logEmpty)
    (hpolicy : s.policy ≠ .reserved) (hfits : s.captureFits) : (decodeStage s).inv := by
  obtain ⟨⟨hparams, hcfg, hinp, -⟩, -⟩ := decodeFront_keeps s
  have hfront := decodeFront_inv h hn hempty hfits
  have hassemble : (unlessError assembleStage (decodeFront s)).inv :=
    unlessError_inv hfront fun hn' =>
      assembleStage_inv hfront hn' (decodeFront_keeps_log hlog)
        (ne_of_eq_of_ne (policy_congr hcfg) hpolicy) fun _ => (captureFits_congr hinp hparams).mpr hfits
  unfold decodeStage
  split
  · exact gate_inv h
  · rw [decodeStages_eq]
    exact unlessError_inv hassemble (validateStage_inv hassemble)

/-! ## A command as a whole -/

/-- Accepting, refusing and DONE touch no register the invariants speak of. -/
theorem stageCommand_inv {bad : Bool} {clear stage : State → State} {s : State} (h : s.inv)
    (hrun : bad = false → (stage (clear s.accept)).inv) : (stageCommand bad clear stage s).inv := by
  cases bad
  · exact hrun rfl
  · exact h

/-- The row of ASSEMBLE that CTRL selects runs the assembler that listing L160 dispatches to. -/
theorem exec_assemble_eq {i : Instr} {s : State}
    (hi : i = .assembleDht ∨ i = .assembleMan ∨ i = .assembleDman ∨ i = .assemblePd)
    (hsel : i.wellFormed s.cfg.ctrl = true) :
    exec i s = .next (stageCommand s.badAssemble (fun s => s.clearErr.clearFrame) assembleStage s) := by
  obtain ⟨hdht, hman, hpd, -, hdiff, hplain⟩ := ctrlPolicy_iff s.cfg.ctrl
  have hstage : ∀ stage, assembleStage s.accept.clearErr.clearFrame = stage s.accept.clearErr.clearFrame →
      stageCommand s.badAssemble (fun s => s.clearErr.clearFrame) stage s =
        stageCommand s.badAssemble (fun s => s.clearErr.clearFrame) assembleStage s := by
    intro stage heq
    cases s.badAssemble
    · rw [stageCommand_good, stageCommand_good, heq]
    · rfl
  rcases hi with rfl | rfl | rfl | rfl <;>
    simp only [Instr.wellFormed, Bool.and_eq_true, beq_iff_eq, hdht, hman, hpd, hdiff, hplain] at hsel <;>
    refine congrArg _ (hstage _ ?_) <;>
    simp [assembleStage, State.policy, State.diff, hsel]

theorem badAssemble_eq_false {s : State} (h : s.badAssemble = false) :
    s.policy ≠ .reserved ∧ (s.policy = .pulseDistance → s.captureFits) := by
  simp only [State.badAssemble, Bool.or_eq_false_iff, beq_eq_false_iff_ne] at h
  obtain ⟨hpolicy, hcapture⟩ := h
  exact ⟨hpolicy, fun hp => captureFits_of_badCapture (by simpa [hp] using hcapture)⟩

theorem badDecode_eq_false {s : State} (h : s.badDecode = false) : s.policy ≠ .reserved ∧ s.captureFits := by
  simp only [State.badDecode, Bool.or_eq_false_iff, beq_eq_false_iff_ne] at h
  obtain ⟨⟨hpolicy, hcapture⟩, -⟩ := h
  exact ⟨hpolicy, captureFits_of_badCapture hcapture⟩

theorem execAssemble_inv {i : Instr} {s t : State}
    (hi : i = .assembleDht ∨ i = .assembleMan ∨ i = .assembleDman ∨ i = .assemblePd)
    (hsel : i.wellFormed s.cfg.ctrl = true) (h : s.inv) (he : exec i s = .next t) : t.inv := by
  rw [exec_assemble_eq hi hsel] at he
  cases he
  refine stageCommand_inv h fun hgood => ?_
  obtain ⟨hpolicy, hfits⟩ := badAssemble_eq_false hgood
  exact assembleStage_inv (s := s.accept.clearErr.clearFrame) (clearFrame_inv (clearErr_inv (s := s.accept) h))
    (State.clearFrame_errKind _) (clearFrame_logEmpty _) (ne_of_eq_of_ne (policy_congr (s := s) (by simp)) hpolicy)
    fun hp => (captureFits_congr (s := s) (by simp) (by simp)).mpr (hfits hp)

/-- Every command that CTRL selects keeps the invariants. -/
theorem exec_inv {i : Instr} {s t : State} (hsel : i.wellFormed s.cfg.ctrl = true) (h : s.inv)
    (he : exec i s = .next t) : t.inv := by
  have herr : s.accept.clearErr.inv := clearErr_inv (s := s.accept) h
  cases i with
  | nop => cases he; exact h
  | clear => cases he; exact clearPipeline_inv (s := s.accept) h.1
  | classify => cases he; exact h
  | normalize =>
    cases he
    exact stageCommand_inv h fun hgood =>
      normalizeStage_inv (clearUnits_inv herr) (State.clearUnits_errKind _) (clearUnits_unitsEmpty _)
        ((captureFits_congr (s := s) (by simp) (by simp)).mpr (captureFits_of_badCapture hgood))
  | matchPreamble =>
    cases he
    exact stageCommand_inv h fun _ =>
      matchStage_inv (clearPayload_inv herr) (State.clearPayload_errKind _) (clearPayload_payloadEmpty _)
  | assembleDht => exact execAssemble_inv (by simp) hsel h he
  | assembleMan => exact execAssemble_inv (by simp) hsel h he
  | assembleDman => exact execAssemble_inv (by simp) hsel h he
  | assemblePd => exact execAssemble_inv (by simp) hsel h he
  | validateDht =>
    cases he
    exact stageCommand_inv h fun _ => validateDhtStage_inv (clearValidation_inv herr) rfl
  | validateNone =>
    cases he
    exact stageCommand_inv h fun _ => validateNoneStage_inv (clearValidation_inv herr)
  | validateNec =>
    cases he
    exact stageCommand_inv h fun _ => validateNecStage_inv (clearValidation_inv herr)
  | decode =>
    cases he
    refine stageCommand_inv h fun hgood => ?_
    obtain ⟨hpolicy, hfits⟩ := badDecode_eq_false hgood
    exact decodeStage_inv (s := s.accept.clearPipeline) (clearPipeline_inv (s := s.accept) h.1)
      (State.clearPipeline_errKind _) (clearPipeline_unitsEmpty _) (clearPipeline_logEmpty _)
      (ne_of_eq_of_ne (policy_congr (s := s) (by simp)) hpolicy)
      ((captureFits_congr (s := s) (by simp) (by simp)).mpr hfits)

/-! ## Events of the host -/

theorem decodeAssemble_wellFormed {c : Ctrl} {i : Instr} (h : decodeAssemble c = .instr i) :
    i.wellFormed c = true := by
  obtain ⟨hdht, hman, hpd, -, hdiff, hplain⟩ := ctrlPolicy_iff c
  unfold decodeAssemble at h
  split at h
  next hp => cases h; simpa [Instr.wellFormed] using hdht.mpr hp
  next hp =>
    split at h
    next hd => cases h; simpa [Instr.wellFormed] using ⟨hman.mpr hp, hdiff.mpr hd⟩
    next hd => cases h; simpa [Instr.wellFormed] using ⟨hman.mpr hp, hplain.mpr (eq_false_of_ne_true hd)⟩
  next hp => cases h; simpa [Instr.wellFormed] using hpd.mpr hp
  next => cases h

theorem decodeValidate_wellFormed {c : Ctrl} {i : Instr} (h : decodeValidate c = .instr i) :
    i.wellFormed c = true := by
  obtain ⟨hdht, hman, hpd, -⟩ := ctrlPolicy_iff c
  unfold decodeValidate at h
  split at h
  next hp => cases h; simpa [Instr.wellFormed] using hdht.mpr hp
  next hp => cases h; simpa [Instr.wellFormed] using hman.mpr hp
  next hp => cases h; simpa [Instr.wellFormed] using hpd.mpr hp
  next => cases h

/-- The decoder answers a row only under a CTRL that selects it (rule R84). -/
theorem decodeWord_wellFormed {c : Ctrl} {w : Word} {i : Instr} (h : decodeWord c w = .instr i) :
    i.wellFormed c = true := by
  unfold decodeWord decodeOp at h
  split at h
  case isFalse => cases h
  split at h
  case h_6 => exact decodeAssemble_wellFormed h
  case h_7 => exact decodeValidate_wellFormed h
  case h_9 => cases h
  all_goals
    cases h
    rfl

theorem hostWrite_inv {s : State} (a : Addr) (v : Word) (h : s.inv) : (hostWrite s a v).inv := by
  obtain ⟨hshape, hwindow, hlog, herror, hresult⟩ := h
  obtain ⟨hparams, hrep, hwork, hhum, htemp, -⟩ := writePlace_keeps s v (locate s.params a)
  refine ⟨writePlace_shaped v _ hshape, ?_, ?_, ?_, ?_⟩ <;> unfold hostWrite
  · simpa only [State.windowInv, State.unitCount, State.payStart, State.payCount, hparams, hwork] using hwindow
  · simpa only [State.logInv, hparams, hrep] using hlog
  · simpa only [State.errorInv, hrep] using herror
  · simpa only [State.resultInv, hrep, hhum, htemp] using hresult

theorem powerOn_inv (p : Params) (fill : Nat → Word) (h : p.legal = true) : (State.powerOn p fill).inv :=
  ⟨powerOn_shaped p fill h, windowInv_of_payloadEmpty ⟨rfl, rfl, rfl⟩ (Nat.zero_le _),
    by simp [State.logInv, State.powerOn], by simp [State.errorInv, State.powerOn, Status.zero],
    by simp [State.resultInv, State.powerOn, Status.zero]⟩

theorem applyReset_inv {s : State} (h : s.inv) : s.applyReset.inv :=
  powerOn_inv s.params (Config.unspecified s.resets) (legal_of_inv h)

theorem runCommand_inv {w : Word} {s t : State} (h : s.inv) (he : runCommand w s = .next t) : t.inv := by
  unfold runCommand at he
  split at he
  next hi => exact exec_inv (decodeWord_wellFormed hi) h he
  next => cases he; exact h
  next => cases he; exact h

theorem perform_inv {e : HostEvent} {s t : State} (h : s.inv) (he : perform e s = .next t) : t.inv := by
  cases e with
  | write a v =>
    simp only [perform] at he
    split at he
    · exact runCommand_inv h he
    · cases he; exact hostWrite_inv a v h
  | read a => cases he; exact h
  | reset => cases he; exact applyReset_inv h

/-- Settles O9, event by event of the host and row by row of the command it starts: each clear
procedure keeps the invariants, and each stage keeps them from the state its clear leaves. -/
theorem everyStepKeepsTheRegisterInvariants : Obligations.EveryStepKeepsTheRegisterInvariants := by
  intro s t h hstep
  unfold step at hstep
  split at hstep
  next => cases hstep; exact h
  next e rest _ => exact perform_inv (s := { s with pending := rest, rdata := none }) h hstep

end Sys2Proof.Machine

/-! ## BIT_COUNT, the state after reset, and the frame lock -/

namespace Sys2Proof.Machine

theorem AssemblesAtMost.bitCount_le {most : Nat} {s t : State} (h : AssemblesAtMost most s t)
    (hzero : s.bitCount = 0) : t.bitCount ≤ most := by
  obtain ⟨x, rfl⟩ | ⟨order, os, hos, rfl⟩ := h
  · exact hzero.trans_le (Nat.zero_le _)
  · simp only [State.bitCount, State.assembled, BitVec.toNat_ofNat]
    exact (Nat.mod_le _ _).trans hos

theorem badAssemble_iff (s : State) {i : Instr}
    (hi : i = .assembleDht ∨ i = .assembleMan ∨ i = .assembleDman ∨ i = .assemblePd) :
    s.badAssemble = true ↔ s.misconfigured i := by
  rcases hi with rfl | rfl | rfl | rfl <;>
    simp [State.badAssemble, State.misconfigured, badCapture_iff]

/-- Settles O11: the assembler that CTRL selects places at most `2 * RAW_CAP = 8 * FRAME_CAP` bits on a
cleared frame. -/
theorem assembledBitCountFitsTheFrame : Obligations.AssembledBitCountFitsTheFrame := by
  intro i s t hi h hsel hgood he
  rw [← badAssemble_iff s hi, Bool.not_eq_true] at hgood
  obtain ⟨hpolicy, hfits⟩ := badAssemble_eq_false hgood
  rw [exec_assemble_eq hi hsel, hgood, stageCommand_good] at he
  cases he
  obtain ⟨hshape, hwindow, -⟩ := clearFrame_inv (clearErr_inv (s := s.accept) h)
  have hplaced := assembleStage_atMost (s := s.accept.clearErr.clearFrame) hshape.1 hwindow
    (ne_of_eq_of_ne (policy_congr (s := s) (by simp)) hpolicy)
    fun hp => (captureFits_congr (s := s) (by simp) (by simp)).mpr (hfits hp)
  obtain ⟨hfour, -⟩ := (legal_iff _).mp (legal_of_inv h)
  calc (assembleStage s.accept.clearErr.clearFrame).finish.bitCount
      ≤ 2 * s.params.rawCap := hplaced.bitCount_le rfl
    _ = 8 * s.params.frameCap := by simp only [Params.frameCap]; omega

/-- Settles O10: nothing the invariants relate is set after reset, for State.reset as for any other
state of reset. -/
theorem resetMeetsTheRegisterInvariants : Obligations.ResetMeetsTheRegisterInvariants :=
  ⟨powerOn_inv, powerOn_inv Params.standard (fun _ => 0#32) rfl⟩

/-- Settles O22: the two places that the lock guards, found through the address map. -/
theorem lockedFrameIgnoresHostWrites : Obligations.LockedFrameIgnoresHostWrites := by
  intro s a v hlegal hlock haddr
  obtain ⟨-, -, -, -, hpat⟩ := (legal_iff _).mp hlegal
  unfold hostWrite
  rcases haddr with hcount | ⟨hlow, hhigh⟩
  · rw [locate_scalar (by omega), hcount]
    exact if_pos hlock
  · rw [locate_frame hpat hlow hhigh]
    exact if_pos hlock

/-! ## What the host reads after reset -/

theorem status_word_zero : Status.zero.word = 0#32 := by decide

theorem clsResult_word_zero : ClsResult.zero.word = 0#32 := by decide

theorem pad_word_zero : Pad.zero.word = 0#32 := by decide

/-- A scalar register after reset (rule R46). -/
theorem powerOn_scalar (p : Params) (fill : Nat → Word) {n : Nat} (h : n < 0x20) :
    (State.powerOn p fill).readPlace (scalarPlace n) = if n = 2 ∨ n = 4 then -1#32 else 0#32 := by
  interval_cases n <;>
    simp [scalarPlace, State.readPlace, State.powerOn, status_word_zero, clsResult_word_zero, pad_word_zero]

theorem getD_map_range {α : Type} (f : Nat → α) (d : α) {n i : Nat} (h : i < n) :
    ((List.range n).map f).getD i d = f i := by
  simp [h]

theorem powerOn_startPatAt (p : Params) (fill : Nat → Word) {i : Nat} (h : i < p.patCap) :
    (State.powerOn p fill).startPatAt i =
      { level := PatLevel.ofBits (fill (0x20 + 2 * i))[1] (fill (0x20 + 2 * i))[0]
        mult := fill (0x20 + 2 * i + 1) } :=
  getD_map_range _ _ h

theorem powerOn_stopPatAt (p : Params) (fill : Nat → Word) {i : Nat} (h : i < p.patCap) :
    (State.powerOn p fill).stopPatAt i =
      { level := PatLevel.ofBits (fill (0x40 + 2 * i))[1] (fill (0x40 + 2 * i))[0]
        mult := fill (0x40 + 2 * i + 1) } :=
  getD_map_range _ _ h

theorem powerOn_rawAt (p : Params) (fill : Nat → Word) {i : Nat} (h : i < p.rawCap) :
    (State.powerOn p fill).rawAt i =
      { dur0 := fill (0x1000 + 4 * i), dur1 := fill (0x1001 + 4 * i)
        level0 := Level.ofBit (fill (0x1002 + 4 * i))[0]
        level1 := Level.ofBit (fill (0x1002 + 4 * i))[1] } :=
  getD_map_range _ _ h

theorem powerOn_unitAt (p : Params) (fill : Nat → Word) {j : Nat} (h : j < p.unitCap) :
    (State.powerOn p fill).unitAt j =
      { dur := fill (0x2000 + 2 * j), level := Level.ofBit (fill (0x2001 + 2 * j))[0] } :=
  getD_map_range _ _ h

theorem powerOn_frameAt (p : Params) (fill : Nat → Word) (i : Nat) :
    (State.powerOn p fill).frameAt i = 0#8 := by
  simp only [State.frameAt, State.powerOn, List.getD_eq_getElem?_getD, List.getElem?_replicate]
  split <;> rfl

/-- Masking the low `k` bits is reading them as a field of a word. -/
theorem and_low_bits (v : Word) {k : Nat} (hk : k ≤ 32) :
    v &&& BitVec.ofNat 32 (2 ^ k - 1) = (v.setWidth k).setWidth 32 := by
  have hpow : 2 ^ k ≤ 2 ^ 32 := Nat.pow_le_pow_right (by omega) hk
  apply BitVec.eq_of_toNat_eq
  rw [BitVec.toNat_and, BitVec.toNat_ofNat, Nat.mod_eq_of_lt (by omega), Nat.and_two_pow_sub_one_eq_mod,
    BitVec.toNat_setWidth, BitVec.toNat_setWidth,
    Nat.mod_eq_of_lt (b := 2 ^ 32) ((Nat.mod_lt _ (Nat.two_pow_pos k)).trans_le hpow)]

/-- The word of a pattern level is the word it was made from, its reserved bits 0 (rule R30). -/
theorem patLevel_word_ofBits (v : Word) :
    (PatLevel.ofBits v[1] v[0]).code.setWidth 32 = v &&& 3#32 := by
  have hcode : ∀ u : BitVec 2, (PatLevel.ofBits u[1] u[0]).code = u := by decide
  simpa [← and_low_bits v (k := 2) (by omega)] using congrArg (BitVec.setWidth 32) (hcode (v.setWidth 2))

/-- The word of a level is the level bit of the word it was made from (rule R38). -/
theorem level_word_ofBit (v : Word) : (Level.ofBit v[0]).code.setWidth 32 = v &&& 1#32 := by
  have hcode : ∀ u : BitVec 1, (Level.ofBit u[0]).code = u := by decide
  simpa [← and_low_bits v (k := 1) (by omega)] using congrArg (BitVec.setWidth 32) (hcode (v.setWidth 1))

/-- The two levels of a raw symbol are the two level bits of the word they were made from (rule R32). -/
theorem levels_word_ofBit (v : Word) :
    (0#30 ++ (Level.ofBit v[1]).code ++ (Level.ofBit v[0]).code : Word) = v &&& 3#32 := by
  have hcode : ∀ u : BitVec 2, (0#30 ++ (Level.ofBit u[1]).code ++ (Level.ofBit u[0]).code : Word) =
      u.setWidth 32 := by decide
  simpa [← and_low_bits v (k := 2) (by omega)] using hcode (v.setWidth 2)
theorem hostRead_powerOn_start {p : Params} (fill : Nat → Word) {a : Addr} (h0 : 0x20 ≤ a.toNat)
    (h : a.toNat < 0x20 + 2 * p.patCap) :
    hostRead (State.powerOn p fill) a =
      if a.toNat % 2 = 0 then fill a.toNat &&& 3#32 else fill a.toNat := by
  rw [hostRead, State.powerOn_params, locate_start h0 h]
  split
  next heven =>
    have hword : 0x20 + 2 * ((a.toNat - 0x20) / 2) = a.toNat := by omega
    rw [State.readPlace, powerOn_startPatAt p fill (by omega), patLevel_word_ofBits, hword]
  next hodd =>
    have hword : 0x20 + 2 * ((a.toNat - 0x20) / 2) + 1 = a.toNat := by omega
    rw [State.readPlace, powerOn_startPatAt p fill (by omega), hword]

theorem hostRead_powerOn_stop {p : Params} (fill : Nat → Word) {a : Addr} (hp : p.patCap ≤ 16)
    (h0 : 0x40 ≤ a.toNat) (h : a.toNat < 0x40 + 2 * p.patCap) :
    hostRead (State.powerOn p fill) a =
      if a.toNat % 2 = 0 then fill a.toNat &&& 3#32 else fill a.toNat := by
  rw [hostRead, State.powerOn_params, locate_stop hp h0 h]
  split
  next heven =>
    have hword : 0x40 + 2 * ((a.toNat - 0x40) / 2) = a.toNat := by omega
    rw [State.readPlace, powerOn_stopPatAt p fill (by omega), patLevel_word_ofBits, hword]
  next hodd =>
    have hword : 0x40 + 2 * ((a.toNat - 0x40) / 2) + 1 = a.toNat := by omega
    rw [State.readPlace, powerOn_stopPatAt p fill (by omega), hword]

theorem hostRead_powerOn_raw {p : Params} (fill : Nat → Word) {a : Addr} (hp : p.legal = true)
    (h0 : 0x1000 ≤ a.toNat) (h : a.toNat < 0x1000 + 4 * p.rawCap) :
    hostRead (State.powerOn p fill) a =
      if a.toNat % 4 = 3 then 0#32 else if a.toNat % 4 = 2 then fill a.toNat &&& 3#32 else fill a.toNat := by
  rw [hostRead, State.powerOn_params, locate_raw hp h0 h]
  have hentry : (a.toNat - 0x1000) / 4 < p.rawCap := by omega
  rcases rawPlace_cases (a.toNat - 0x1000) with
      ⟨hoff, hplace⟩ | ⟨hoff, hplace⟩ | ⟨hoff, hplace⟩ | ⟨hoff, hplace⟩ <;>
    rw [hplace, State.readPlace]
  · have hword : 0x1000 + 4 * ((a.toNat - 0x1000) / 4) = a.toNat := by omega
    rw [powerOn_rawAt p fill hentry, hword, if_neg (by omega), if_neg (by omega)]
  · have hword : 0x1001 + 4 * ((a.toNat - 0x1000) / 4) = a.toNat := by omega
    rw [powerOn_rawAt p fill hentry, hword, if_neg (by omega), if_neg (by omega)]
  · have hword : 0x1002 + 4 * ((a.toNat - 0x1000) / 4) = a.toNat := by omega
    rw [powerOn_rawAt p fill hentry, levels_word_ofBit, hword, if_neg (by omega), if_pos (by omega)]
  · rw [if_pos (by omega)]

theorem hostRead_powerOn_unit {p : Params} (fill : Nat → Word) {a : Addr} (hp : p.legal = true)
    (h0 : 0x2000 ≤ a.toNat) (h : a.toNat < 0x2000 + 2 * p.unitCap) :
    hostRead (State.powerOn p fill) a =
      if a.toNat % 2 = 1 then fill a.toNat &&& 1#32 else fill a.toNat := by
  rw [hostRead, State.powerOn_params, locate_unit hp h0 h]
  split
  next heven =>
    have hword : 0x2000 + 2 * ((a.toNat - 0x2000) / 2) = a.toNat := by omega
    rw [State.readPlace, powerOn_unitAt p fill (by omega), hword, if_neg (by omega)]
  next hodd =>
    have hword : 0x2001 + 2 * ((a.toNat - 0x2000) / 2) = a.toNat := by omega
    rw [State.readPlace, powerOn_unitAt p fill (by omega), level_word_ofBit, hword, if_pos (by omega)]

/-- Settles O12, region by region of the address map: the scalar registers, the frame, and the four
arrays that reset leaves unspecified. -/
theorem resetRegistersReadTheirStatedValues : Obligations.ResetRegistersReadTheirStatedValues := by
  intro p fill a hlegal
  obtain ⟨-, -, -, -, hpat⟩ := (legal_iff _).mp hlegal
  refine ⟨fun h => ?scalar, fun h0 h => ?frame, ?patterns, hostRead_powerOn_raw fill hlegal,
    hostRead_powerOn_unit fill hlegal⟩
  case scalar =>
    rw [hostRead, locate_scalar h]
    exact powerOn_scalar p fill h
  case frame =>
    rw [hostRead, State.powerOn_params, locate_frame hpat h0 h, State.readPlace, powerOn_frameAt]
    rfl
  case patterns =>
    rintro (⟨h0, h⟩ | ⟨h0, h⟩)
    · exact hostRead_powerOn_start fill h0 h
    · exact hostRead_powerOn_stop fill hpat h0 h

end Sys2Proof.Machine

/-! ## What DECODE does not read

Two states that ClearPipeline has cleared can differ in the unit pulses from UNIT_COUNT on, in CLS_RESULT
and on the host's side. Every stage of DECODE commutes with replacing these. -/

namespace Sys2Proof.Machine

/-- `s` with UNIT, CLS_RESULT and the host's side as `x` has them. -/
def State.withLeftovers (s x : State) : State :=
  { s with
    work.units := x.work.units, rep.clsResult := x.rep.clsResult
    pending := x.pending, rdata := x.rdata, resets := x.resets }

/-- `x` has the unit pulses below UNIT_COUNT that `s` has, and room for as many. -/
def State.unitsAgree (s x : State) : Prop :=
  x.work.units.length = s.work.units.length ∧ ∀ j, j < s.unitCount → x.unitAt j = s.unitAt j

@[simp] theorem withLeftovers_policy (s x : State) : (s.withLeftovers x).policy = s.policy := rfl
@[simp] theorem withLeftovers_diff (s x : State) : (s.withLeftovers x).diff = s.diff := rfl
@[simp] theorem withLeftovers_numDataBits (s x : State) : (s.withLeftovers x).numDataBits = s.numDataBits := rfl
@[simp] theorem withLeftovers_symCount (s x : State) : (s.withLeftovers x).symCount = s.symCount := rfl
@[simp] theorem withLeftovers_unitCount (s x : State) : (s.withLeftovers x).unitCount = s.unitCount := rfl
@[simp] theorem withLeftovers_startLen (s x : State) : (s.withLeftovers x).startLen = s.startLen := rfl
@[simp] theorem withLeftovers_stopLen (s x : State) : (s.withLeftovers x).stopLen = s.stopLen := rfl
@[simp] theorem withLeftovers_startPatAt (s x : State) (i : Nat) :
    (s.withLeftovers x).startPatAt i = s.startPatAt i := rfl
@[simp] theorem withLeftovers_stopPatAt (s x : State) (i : Nat) :
    (s.withLeftovers x).stopPatAt i = s.stopPatAt i := rfl
@[simp] theorem withLeftovers_payStart (s x : State) : (s.withLeftovers x).payStart = s.payStart := rfl
@[simp] theorem withLeftovers_payCount (s x : State) : (s.withLeftovers x).payCount = s.payCount := rfl
@[simp] theorem withLeftovers_payPad (s x : State) :
    (s.withLeftovers x).work.payPad = s.work.payPad := rfl

theorem withLeftovers_unitAt {s x : State} (h : s.unitsAgree x) {j : Nat} (hj : j < s.unitCount) :
    (s.withLeftovers x).unitAt j = s.unitAt j := h.2 j hj

/-- Agreement is about UNIT and UNIT_COUNT only. -/
theorem unitsAgree_congr {s t x : State} (h : t.work = s.work) : t.unitsAgree x ↔ s.unitsAgree x := by
  simp only [State.unitsAgree, State.unitAt, State.unitCount, h]

theorem unlessError_withLeftovers {stage : State → State} {s x : State}
    (h : stage (s.withLeftovers x) = (stage s).withLeftovers x) :
    unlessError stage (s.withLeftovers x) = (unlessError stage s).withLeftovers x := by
  unfold unlessError
  rw [apply_ite (State.withLeftovers · x), h]
  rfl

/-! ### U2 -/

/-- Emitting a pulse emits it among the leftovers too. -/
theorem emitUnit_withLeftovers (u : UnitPulse) {s x : State} (h : s.unitsAgree x) :
    ∃ y, (s.withLeftovers x).emitUnit u = (s.emitUnit u).withLeftovers y ∧ (s.emitUnit u).unitsAgree y ∧
      y.rep.clsResult = x.rep.clsResult := by
  obtain ⟨hlen, hunits⟩ := h
  refine ⟨{ x with work.units := x.work.units.set s.unitCount u }, rfl, ⟨by simp [hlen], fun j hj => ?_⟩, rfl⟩
  simp only [State.unitAt, State.unitCount, State.emitUnit_work_units, State.emitUnit_work_unitCount,
    getD_set, hlen] at hunits hj ⊢
  split
  next => rfl
  next hother =>
    rcases lt_or_ge j s.work.unitCount.toNat with hbelow | habove
    · exact hunits j hbelow
    · have hbeyond : s.work.units.length ≤ j := by
        rw [BitVec.toNat_add, BitVec.toNat_ofNat] at hj
        omega
      rw [List.getD_eq_default _ _ hbeyond, List.getD_eq_default _ _ (hlen.trans_le hbeyond)]

theorem normalizeHalves_withLeftovers (hs : List (Nat × Half)) {s x : State} (h : s.unitsAgree x) :
    ∃ y, normalizeHalves hs (s.withLeftovers x) = (normalizeHalves hs s).withLeftovers y ∧
      (normalizeHalves hs s).unitsAgree y ∧ y.rep.clsResult = x.rep.clsResult := by
  induction hs generalizing s x with
  | nil => exact ⟨x, rfl, h, rfl⟩
  | cons p hs ih =>
    obtain ⟨i, half⟩ := p
    have hraw : (s.withLeftovers x).rawAt i = s.rawAt i := rfl
    have hcfg : (s.withLeftovers x).cfg = s.cfg := rfl
    have hlenient : (s.withLeftovers x).lenient = s.lenient := rfl
    simp only [normalizeHalves, hraw, hcfg, hlenient]
    split
    next => exact ih h
    next =>
      split
      next =>
        obtain ⟨y, hemit, hagree, hcls⟩ := emitUnit_withLeftovers _ h
        rw [hemit, ← hcls]
        exact ih hagree
      next =>
        obtain ⟨y, hemit, hagree, hcls⟩ := emitUnit_withLeftovers _ h
        obtain ⟨z, hemit', hagree', hcls'⟩ := emitUnit_withLeftovers _ hagree
        rw [hemit, hemit', ← hcls, ← hcls']
        exact ih hagree'
      next =>
        split
        · exact ih (s := s.countSkip) h
        · exact ⟨x, rfl, h, rfl⟩

/-! ### U3 -/

theorem startMismatch_withLeftovers {s x : State} (h : s.unitsAgree x) (hfit : s.startLen ≤ s.unitCount) :
    startMismatch (s.withLeftovers x) = startMismatch s := by
  refine List.find?_congr fun i hi => ?_
  simp only [withLeftovers_startLen, List.mem_range] at hi
  rw [withLeftovers_startPatAt, withLeftovers_unitAt h (by omega)]

theorem stopMismatch_withLeftovers {s x : State} (h : s.unitsAgree x) (hfit : s.stopLen ≤ s.unitCount) :
    stopMismatch (s.withLeftovers x) = stopMismatch s := by
  refine List.find?_congr fun j hj => ?_
  simp only [withLeftovers_stopLen, withLeftovers_unitCount, List.mem_map, List.mem_range] at hj
  obtain ⟨k, hk, rfl⟩ := hj
  simp only [withLeftovers_stopLen, withLeftovers_unitCount, withLeftovers_stopPatAt]
  rw [withLeftovers_unitAt h (by omega)]

theorem writePayload_withLeftovers {s x : State} (h : s.unitsAgree x) :
    (s.withLeftovers x).writePayload = s.writePayload.withLeftovers x := by
  unfold State.writePayload
  rw [withLeftovers_unitCount, withLeftovers_startLen, withLeftovers_stopLen]
  dsimp only
  split_ifs with hodd
  · rw [withLeftovers_unitAt h (by omega)]
    rfl
  · rfl

theorem matchStage_withLeftovers {s x : State} (h : s.unitsAgree x) :
    matchStage (s.withLeftovers x) = (matchStage s).withLeftovers x := by
  unfold matchStage
  rw [withLeftovers_unitCount, withLeftovers_startLen, withLeftovers_stopLen]
  split_ifs with hshort
  · rfl
  · rw [startMismatch_withLeftovers h (by omega), stopMismatch_withLeftovers h (by omega),
      writePayload_withLeftovers h]
    cases startMismatch s with
    | some i => rfl
    | none => cases stopMismatch s <;> rfl

theorem matchStage_unitsAgree {s x : State} (h : s.unitsAgree x) : (matchStage s).unitsAgree x := by
  obtain ⟨j, heq⟩ | ⟨heq, -⟩ := matchStage_outcome s <;> rw [heq]
  · exact h
  · rw [writePayload_eq]
    exact h

/-! ### U4 and U5 -/

theorem assembled_withLeftovers (order : BitOrder) (os : List BitOutcome) (s x : State) :
    (s.withLeftovers x).assembled order os = (s.assembled order os).withLeftovers x := by
  simp only [State.assembled, placeBits_eq]
  rfl

theorem assembleRaw_withLeftovers (order : BitOrder) (n : Nat) (f : RawSymbol → BitOutcome) (s x : State) :
    assembleRaw order n f (s.withLeftovers x) = (assembleRaw order n f s).withLeftovers x := by
  unfold assembleRaw
  rw [apply_ite (State.withLeftovers · x), ← assembled_withLeftovers]
  rfl

/-- The payload levels are those of unit pulses below UNIT_COUNT and of the pad (rule R165). -/
theorem payLevel_withLeftovers {s x : State} (h : s.unitsAgree x) (hwindow : s.windowInv) {j : Nat}
    (hj : j < s.payCount) : (s.withLeftovers x).payLevel j = s.payLevel j := by
  obtain ⟨-, hfit, -⟩ := hwindow
  unfold State.payLevel
  rw [withLeftovers_payPad, withLeftovers_payCount, withLeftovers_payStart]
  split_ifs with hpad
  · rfl
  · have hbelow : s.payStart + j < s.unitCount := by
      split at hfit
      next hpadded => simp only [hpadded, true_and] at hpad; omega
      next => omega
    rw [withLeftovers_unitAt h hbelow]

theorem assemblePairs_withLeftovers (f : Level → Level → BitOutcome) {s x : State} (h : s.unitsAgree x)
    (hwindow : s.windowInv) :
    assemblePairs f (s.withLeftovers x) = (assemblePairs f s).withLeftovers x := by
  have hpairs : (List.range (s.payCount / 2)).map (fun k =>
        f ((s.withLeftovers x).payLevel (2 * k)) ((s.withLeftovers x).payLevel (2 * k + 1))) =
      (List.range (s.payCount / 2)).map fun k => f (s.payLevel (2 * k)) (s.payLevel (2 * k + 1)) := by
    refine List.map_congr_left fun k hk => ?_
    rw [List.mem_range] at hk
    rw [payLevel_withLeftovers h hwindow (by omega), payLevel_withLeftovers h hwindow (by omega)]
  unfold assemblePairs
  rw [withLeftovers_payCount, withLeftovers_numDataBits]
  dsimp only
  rw [hpairs, assembled_withLeftovers]
  split_ifs <;> rfl

theorem assembleStage_withLeftovers {s x : State} (h : s.unitsAgree x) (hwindow : s.windowInv) :
    assembleStage (s.withLeftovers x) = (assembleStage s).withLeftovers x := by
  unfold assembleStage
  rw [withLeftovers_policy, withLeftovers_diff]
  split
  · exact assembleRaw_withLeftovers ..
  · split_ifs <;> exact assemblePairs_withLeftovers _ h hwindow
  · exact assembleRaw_withLeftovers ..
  · rfl

theorem validateDhtStage_withLeftovers (s x : State) :
    validateDhtStage (s.withLeftovers x) = (validateDhtStage s).withLeftovers x := by
  unfold validateDhtStage
  simp only [apply_ite (State.withLeftovers · x)]
  rfl

theorem writeNecChecks_withLeftovers (s x : State) :
    (s.withLeftovers x).writeNecChecks = s.writeNecChecks.withLeftovers x := by
  unfold State.writeNecChecks
  dsimp only
  rw [apply_ite (State.withLeftovers · x)]
  rfl

theorem validateNecStage_withLeftovers (s x : State) :
    validateNecStage (s.withLeftovers x) = (validateNecStage s).withLeftovers x := by
  rw [validateNecStage, writeNecChecks_withLeftovers]
  rfl

theorem validateStage_withLeftovers (s x : State) :
    validateStage (s.withLeftovers x) = (validateStage s).withLeftovers x := by
  unfold validateStage
  rw [withLeftovers_policy]
  split
  · exact validateDhtStage_withLeftovers s x
  · rfl
  · exact validateNecStage_withLeftovers s x
  · rfl

/-- ASSEMBLE and VALIDATE leave the working registers alone. -/
theorem assembleStage_keeps_work (s : State) : (assembleStage s).work = s.work := by
  obtain ⟨x, h⟩ | ⟨_, _, _, _, -, h⟩ := assembleStage_outcome s
  · rw [h, State.raise_work]
  · rw [h]

theorem validateStage_keeps_work (s : State) : (validateStage s).work = s.work := by
  obtain ⟨_, _, _, _, h, -⟩ := validateStage_outcome s
  rw [h]

theorem unlessError_keeps_work {stage : State → State} {s : State} (h : (stage s).work = s.work) :
    (unlessError stage s).work = s.work := by
  unfold unlessError
  split
  · exact h
  · rfl

/-! ### DECODE -/

theorem decodeFront_withLeftovers {s x : State} (h : s.unitsAgree x) :
    ∃ y, decodeFront (s.withLeftovers x) = (decodeFront s).withLeftovers y ∧ (decodeFront s).unitsAgree y ∧
      y.rep.clsResult = x.rep.clsResult := by
  unfold decodeFront
  rw [withLeftovers_policy]
  split_ifs
  · obtain ⟨y, hnorm, hagree, hcls⟩ := normalizeHalves_withLeftovers (halvesOf s.symCount) h
    refine ⟨y, ?_, ?_, hcls⟩
    · rw [normalizeStage, withLeftovers_symCount, hnorm]
      exact unlessError_withLeftovers (matchStage_withLeftovers hagree)
    · unfold unlessError
      split
      · exact matchStage_unitsAgree hagree
      · exact hagree
  · exact ⟨x, rfl, h, rfl⟩

theorem decodeStage_withLeftovers {s x : State} (h : s.unitsAgree x) (hwindow : (decodeFront s).windowInv) :
    ∃ y, decodeStage (s.withLeftovers x) = (decodeStage s).withLeftovers y ∧ (decodeStage s).unitsAgree y ∧
      y.rep.clsResult = x.rep.clsResult := by
  have hgate : (s.withLeftovers x).gateSkips = s.gateSkips := rfl
  unfold decodeStage
  rw [hgate]
  split_ifs
  · exact ⟨x, rfl, h, rfl⟩
  · obtain ⟨y, hfront, hagree, hcls⟩ := decodeFront_withLeftovers h
    refine ⟨y, ?_, ?_, hcls⟩
    · rw [decodeStages_eq, hfront, unlessError_withLeftovers (assembleStage_withLeftovers hagree hwindow),
        unlessError_withLeftovers (validateStage_withLeftovers _ _), decodeStages_eq]
    · rw [decodeStages_eq, unitsAgree_congr (unlessError_keeps_work (validateStage_keeps_work _)),
        unitsAgree_congr (unlessError_keeps_work (assembleStage_keeps_work _))]
      exact hagree

/-- ClearPipeline of an accepted command leaves the configuration, the inputs, cleared registers, and the
leftovers. -/
theorem clearPipeline_eq (s : State) :
    s.accept.clearPipeline =
      { s with
        work := { s.work with unitCount := 0#32, payStart := 0#32, payCount := 0#32, payPad := Pad.zero }
        out := s.out.blank
        rep :=
          { status := Status.zero, errIndex := -1#32, bitErrCount := 0#32, bitErrFirst := -1#32
            skipCount := 0#32, clsResult := s.rep.clsResult } } := by
  simp only [State.accept, State.clearPipeline, State.clearUnits, State.clearPayload, State.clearFrame,
    State.clearValidation, State.clearErr, Status.zero, Output.blank, List.map_const']

/-- Two shaped states with the same configuration and inputs differ only in the leftovers once they are
cleared. -/
theorem clearPipeline_withLeftovers {s s' : State} (hs : s.shaped) (hs' : s'.shaped)
    (hparams : s'.params = s.params) (hcfg : s'.cfg = s.cfg) (hinp : s'.inp = s.inp) :
    s'.accept.clearPipeline = s.accept.clearPipeline.withLeftovers s' ∧
      s.accept.clearPipeline.unitsAgree s' := by
  obtain ⟨-, -, -, -, hunits, hframe⟩ := hs
  obtain ⟨-, -, -, -, hunits', hframe'⟩ := hs'
  rw [hparams] at hunits' hframe'
  constructor
  · rw [clearPipeline_eq, clearPipeline_eq, Output.blank, Output.blank, hframe, hframe', hparams, hcfg, hinp]
    rfl
  · exact ⟨hunits'.trans hunits.symm, fun j hj => absurd hj (Nat.not_lt_zero j)⟩

theorem badDecode_iff (s : State) : s.badDecode = true ↔ s.misconfigured .decode := by
  simp [State.badDecode, State.misconfigured, badCapture_iff, badPatterns_iff, or_assoc]

theorem badDecode_congr {s s' : State} (hparams : s'.params = s.params) (hcfg : s'.cfg = s.cfg)
    (hinp : s'.inp = s.inp) : s'.badDecode = s.badDecode := by
  cases s
  cases s'
  subst hparams hcfg hinp
  rfl

/-- Settles O44: after ClearPipeline the two states differ in leftovers only, and DECODE commutes with
replacing the leftovers. -/
theorem decodeDependsOnlyOnConfigurationAndInputs :
    Obligations.DecodeDependsOnlyOnConfigurationAndInputs := by
  intro s s' t t' hs hs' hparams hcfg hinp hgood he he'
  rw [← badDecode_iff, Bool.not_eq_true] at hgood
  obtain ⟨-, hfits⟩ := badDecode_eq_false hgood
  have hgood' := (badDecode_congr hparams hcfg hinp).trans hgood
  obtain ⟨hclear, hagree⟩ := clearPipeline_withLeftovers hs hs' hparams hcfg hinp
  obtain ⟨-, hwindow, -⟩ := decodeFront_inv (s := s.accept.clearPipeline)
    (clearPipeline_inv (s := s.accept) hs) (State.clearPipeline_errKind _) (clearPipeline_unitsEmpty _)
    ((captureFits_congr (s := s) (by simp) (by simp)).mpr hfits)
  obtain ⟨y, hdecode, hunits, hcls⟩ := decodeStage_withLeftovers hagree hwindow
  rw [exec, execDecode, hgood, stageCommand_good] at he
  rw [exec, execDecode, hgood', stageCommand_good, hclear, hdecode] at he'
  cases he
  cases he'
  refine ⟨rfl, ?_, rfl, rfl, rfl, rfl, hunits.2⟩
  rw [← hcls]
  rfl

end Sys2Proof.Machine

/-! ## The map of table T63 as a correspondence of words and places

Every place but `unmapped` has one word address, and every address that the map lists is the one of its
place. -/

namespace Sys2Proof.Machine

/-- The word address that table T63 gives a place; an unmapped word has none of its own. -/
def Place.address : Place → Nat
  | .cmd => 0x00
  | .status => 0x01
  | .errIndex => 0x02
  | .bitErrCount => 0x03
  | .bitErrFirst => 0x04
  | .skipCount => 0x05
  | .clsDur => 0x06
  | .clsResult => 0x07
  | .base => 0x08
  | .tol => 0x09
  | .ctrl => 0x0A
  | .numDataBits => 0x0B
  | .expectedSyms => 0x0C
  | .rawSkipHead => 0x0D
  | .startLen => 0x0E
  | .stopLen => 0x0F
  | .symCount => 0x10
  | .unitCount => 0x11
  | .payStart => 0x12
  | .payCount => 0x13
  | .payPad => 0x14
  | .bitCount => 0x15
  | .humX10 => 0x16
  | .tempX10 => 0x17
  | .startLevel i => 0x020 + 2 * i
  | .startMult i => 0x021 + 2 * i
  | .stopLevel i => 0x040 + 2 * i
  | .stopMult i => 0x041 + 2 * i
  | .frame i => 0x100 + i
  | .rawDur0 i => 0x1000 + 4 * i
  | .rawDur1 i => 0x1001 + 4 * i
  | .rawLevels i => 0x1002 + 4 * i
  | .unitDur j => 0x2000 + 2 * j
  | .unitLevel j => 0x2001 + 2 * j
  | .unmapped => 0

/-- The place exists in a core with capacities `p`: an array word lies below its capacity. -/
def Place.within (p : Params) : Place → Prop
  | .startLevel i | .startMult i | .stopLevel i | .stopMult i => i < p.patCap
  | .frame i => i < p.frameCap
  | .rawDur0 i | .rawDur1 i | .rawLevels i => i < p.rawCap
  | .unitDur j | .unitLevel j => j < p.unitCap
  | .unmapped => False
  | _ => True

/-- `q` is what the map may place at the word address `n`: nothing, or an existing place with that
address. -/
def Place.fits (p : Params) (n : Nat) (q : Place) : Prop := q = .unmapped ∨ (q.within p ∧ q.address = n)

theorem scalarPlace_fits (p : Params) {n : Nat} (h : n < 0x20) : (scalarPlace n).fits p n := by
  interval_cases n <;> first | exact .inl rfl | exact .inr ⟨trivial, rfl⟩

theorem rawPlace_fits {p : Params} {o : Nat} (h : o < 4 * p.rawCap) : (rawPlace o).fits p (0x1000 + o) := by
  rcases rawPlace_cases o with ⟨hoff, hplace⟩ | ⟨hoff, hplace⟩ | ⟨hoff, hplace⟩ | ⟨hoff, hplace⟩
  case inr.inr.inr => exact .inl hplace
  all_goals
    rw [hplace]
    refine .inr ⟨?_, ?_⟩ <;> simp only [Place.within, Place.address] <;> omega

theorem rawPlace_words :
    (∀ i, rawPlace (4 * i) = .rawDur0 i) ∧ (∀ i, rawPlace (4 * i + 1) = .rawDur1 i) ∧
      (∀ i, rawPlace (4 * i + 2) = .rawLevels i) ∧ (∀ i, rawPlace (4 * i + 3) = .unmapped) := by
  have hdiv : ∀ i k, k < 4 → (4 * i + k) / 4 = i := by omega
  refine ⟨fun i => ?_, fun i => ?_, fun i => ?_, fun i => ?_⟩ <;> simp [rawPlace, hdiv]

/-- Region by region of the map, for all capacities. -/
theorem locate_fits (p : Params) (a : Addr) : (locate p a).fits p a.toNat := by
  unfold locate
  dsimp only
  split
  next h => exact scalarPlace_fits p h
  split
  next => split_ifs <;> refine .inr ⟨?_, ?_⟩ <;> simp only [Place.within, Place.address] <;> omega
  split
  next => split_ifs <;> refine .inr ⟨?_, ?_⟩ <;> simp only [Place.within, Place.address] <;> omega
  split
  next => refine .inr ⟨?_, ?_⟩ <;> simp only [Place.within, Place.address] <;> omega
  split
  next h => simpa [Nat.add_sub_cancel' h.1] using rawPlace_fits (p := p) (o := a.toNat - 0x1000) (by omega)
  split
  next => split_ifs <;> refine .inr ⟨?_, ?_⟩ <;> simp only [Place.within, Place.address] <;> omega
  next => exact .inl rfl

/-- No two words share a place. -/
theorem locate_injective {p : Params} {a b : Addr} (h : locate p a = locate p b)
    (hm : locate p a ≠ .unmapped) : a = b := by
  obtain ⟨-, ha⟩ := (locate_fits p a).resolve_left hm
  obtain ⟨-, hb⟩ := (locate_fits p b).resolve_left (h ▸ hm)
  exact BitVec.eq_of_toNat_eq (by rw [← ha, h, hb])

theorem Place.address_lt {p : Params} (hp : p.legal = true) {q : Place} (hq : q.within p) :
    q.address < 2 ^ 14 := by
  obtain ⟨-, -, hraw, -, hpat⟩ := (legal_iff _).mp hp
  cases q <;> simp only [Place.within, Place.address, Params.frameCap, Params.unitCap] at hq ⊢ <;> omega

/-- Every existing place is found at its address. -/
theorem locate_address {p : Params} (hp : p.legal = true) {q : Place} (hq : q.within p) :
    locate p (BitVec.ofNat 14 q.address) = q := by
  obtain ⟨-, -, -, -, hpat⟩ := (legal_iff _).mp hp
  obtain ⟨rawDur0, rawDur1, rawLevels, -⟩ := rawPlace_words
  have hword : (BitVec.ofNat 14 q.address).toNat = q.address :=
    Nat.mod_eq_of_lt (Place.address_lt hp hq)
  generalize BitVec.ofNat 14 q.address = a at hword ⊢
  cases q <;> simp only [Place.address, Place.within] at hword hq
  case startLevel i =>
    rw [locate_start (by omega) (by omega), if_pos (by omega), show (a.toNat - 0x20) / 2 = i by omega]
  case startMult i =>
    rw [locate_start (by omega) (by omega), if_neg (by omega), show (a.toNat - 0x20) / 2 = i by omega]
  case stopLevel i =>
    rw [locate_stop hpat (by omega) (by omega), if_pos (by omega), show (a.toNat - 0x40) / 2 = i by omega]
  case stopMult i =>
    rw [locate_stop hpat (by omega) (by omega), if_neg (by omega), show (a.toNat - 0x40) / 2 = i by omega]
  case frame i =>
    rw [locate_frame hpat (by omega) (by omega), hword, Nat.add_sub_cancel_left]
  case rawDur0 i =>
    rw [locate_raw hp (by omega) (by omega), show a.toNat - 0x1000 = 4 * i by omega, rawDur0]
  case rawDur1 i =>
    rw [locate_raw hp (by omega) (by omega), show a.toNat - 0x1000 = 4 * i + 1 by omega, rawDur1]
  case rawLevels i =>
    rw [locate_raw hp (by omega) (by omega), show a.toNat - 0x1000 = 4 * i + 2 by omega, rawLevels]
  case unitDur j =>
    rw [locate_unit hp (by omega) (by omega), if_pos (by omega), show (a.toNat - 0x2000) / 2 = j by omega]
  case unitLevel j =>
    rw [locate_unit hp (by omega) (by omega), if_neg (by omega), show (a.toNat - 0x2000) / 2 = j by omega]
  all_goals
    rw [locate_scalar (by omega), hword]
    rfl

end Sys2Proof.Machine

/-! ## What a read delivers -/

namespace Sys2Proof.Machine

/-! ### The host's events -/

theorem step_of_pending {s : State} {e : HostEvent} {rest : List HostEvent} (h : s.pending = e :: rest) :
    step s = perform e { s with pending := rest, rdata := none } := by
  unfold step
  rw [h]

/-- A word of the register space depends on the registers only. -/
theorem readPlace_hostSide (s : State) (pending : List HostEvent) (rdata : Option Word) (q : Place) :
    ({ s with pending := pending, rdata := rdata } : State).readPlace q = s.readPlace q := by
  cases q <;> rfl

theorem step_read {s : State} {a : Addr} {rest : List HostEvent} (h : s.pending = .read a :: rest) :
    step s = .next { s with pending := rest, rdata := some (hostRead s a) } := by
  rw [step_of_pending h, perform, hostRead, readPlace_hostSide]
  rfl

/-- Settles O14: the event is taken off and answered, and CMD is a place that reads 0. -/
theorem hostReadsChangeNothing : Obligations.HostReadsChangeNothing :=
  fun _ _ _ h => ⟨step_read h, rfl⟩

/-- Settles O21: an address other than CMD is a register write, which keeps what `writePlace_keeps`
lists. -/
theorem registerWritesNeverTouchResults : Obligations.RegisterWritesNeverTouchResults := by
  intro s a v rest h hcmd
  obtain ⟨hparams, hrep, hwork, hhum, htemp, -, -, -, -, hpending, hrdata, hresets⟩ :=
    writePlace_keeps { s with pending := rest, rdata := none } v (locate s.params a)
  refine ⟨_, ?_, rfl, hrep, hwork, hhum, htemp, hparams, hpending, hrdata, hresets⟩
  rw [step_of_pending h, perform, if_neg hcmd]

/-! ### Codes and fields of the scalar registers -/

theorem Level.code_toNat (l : Level) : l.code.toNat = levelNumber l := by cases l <;> rfl

theorem PatLevel.code_toNat (l : PatLevel) : l.code.toNat = patLevelNumber l := by cases l <;> rfl

theorem Half.code_toNat (h : Half) : h.code.toNat = halfNumber h := by cases h <;> rfl

theorem PulseClass.code_toNat (c : PulseClass) : c.code.toNat = classNumber c := by cases c <;> rfl

theorem ErrKind.code_toNat (k : ErrKind) : k.code.toNat = errKindNumber k := by cases k <;> rfl

theorem ErrUnit.code_toNat (u : ErrUnit) : u.code.toNat = errUnitNumber u := by cases u <;> rfl

theorem Chk.code_toNat (c : Chk) : c.code.toNat = chkNumber c := by cases c <;> rfl

theorem CmdErr.code_toNat (c : CmdErr) : c.code.toNat = cmdErrNumber c := by cases c <;> rfl

/-- The one-bit fields of STATUS at the positions of table T33. -/
theorem Status.word_bits (t : Status) :
    t.word[0] = t.done ∧ t.word[7] = t.skipped ∧ t.word[10] = t.validated ∧ t.word[11] = t.frameOk ∧
      t.word[12] = t.htValid ∧ t.word[13] = t.tempNeg ∧ t.word[14] = t.necFail0 ∧
      t.word[15] = t.necFail1 := by
  simp only [← BitVec.getLsbD_eq_getElem]
  simp only [Status.word, BitVec.getLsbD_append]
  simp

/-- The coded fields of STATUS at the positions of table T33. -/
theorem Status.word_fields (t : Status) :
    t.word.extractLsb' 1 2 = t.errKind.code ∧ t.word.extractLsb' 3 3 = t.errUnit.code ∧
      t.word.extractLsb' 6 1 = t.errHalf.code ∧ t.word.extractLsb' 8 2 = t.chk.code ∧
      t.word.extractLsb' 16 2 = t.cmdErr.code ∧ t.word.extractLsb' 18 14 = 0#14 := by
  simp (disch := decide) only [Status.word, BitVec.extractLsb'_append_eq_of_le,
    BitVec.extractLsb'_append_eq_of_add_le]
  simp

/-- The fields of CLS_RESULT at the positions of rule R37. -/
theorem ClsResult.word_fields (r : ClsResult) :
    r.word.extractLsb' 0 2 = r.cls.code ∧ r.word[2] = r.in1 ∧ r.word[3] = r.in2 ∧ r.word[4] = r.in3 ∧
      r.word.extractLsb' 5 27 = 0#27 := by
  obtain ⟨cls, in1, in2, in3⟩ := r
  cases cls <;> revert in1 in2 in3 <;> decide

/-- The fields of PAY_PAD at the positions of rule R39. -/
theorem Pad.word_fields (p : Pad) :
    p.word[0] = p.pad ∧ p.word.extractLsb' 1 1 = p.level.code ∧ p.word.extractLsb' 2 30 = 0#30 := by
  obtain ⟨pad, level⟩ := p
  cases level <;> revert pad <;> decide

/-- The fields of CTRL at the positions of rule R25, its reserved bits 0. -/
theorem ctrl_word_fields (c : Ctrl) :
    ((c.setWidth 32).extractLsb' 0 2).toNat = policyNumber (ctrlPolicy c) ∧
      (c.setWidth 32)[2] = ctrlDiff c ∧ (c.setWidth 32)[3] = ctrlLenient c ∧
      (c.setWidth 32).extractLsb' 0 4 = c ∧ (c.setWidth 32).extractLsb' 4 28 = 0#28 := by
  revert c
  decide

/-- Settles O15: each address is that of its register, and the words of STATUS, CLS_RESULT, CTRL and
PAY_PAD are made of their fields. -/
theorem hostReadsDeliverTheScalarRegisters : Obligations.HostReadsDeliverTheScalarRegisters := by
  intro s
  refine ⟨rfl, ?status, rfl, rfl, rfl, rfl, rfl, ?clsResult, rfl, rfl, ctrl_word_fields s.cfg.ctrl,
    ⟨rfl, rfl⟩, ⟨rfl, rfl⟩, ⟨rfl, rfl⟩, ⟨rfl, rfl⟩, ⟨rfl, rfl⟩, ⟨rfl, rfl⟩, ⟨rfl, rfl⟩, ⟨rfl, rfl⟩,
    ⟨rfl, rfl⟩, ?pad, ⟨rfl, rfl⟩, rfl, rfl⟩
  case status =>
    obtain ⟨hdone, hskipped, hvalidated, hframeOk, hhtValid, htempNeg, hnec0, hnec1⟩ :=
      s.rep.status.word_bits
    obtain ⟨hkind, hunit, hhalf, hchk, hcmdErr, hzero⟩ := s.rep.status.word_fields
    exact ⟨hdone, hkind ▸ ErrKind.code_toNat _, hunit ▸ ErrUnit.code_toNat _, hhalf ▸ Half.code_toNat _,
      hskipped, hchk ▸ Chk.code_toNat _, hvalidated, hframeOk, hhtValid, htempNeg, hnec0, hnec1,
      hcmdErr ▸ CmdErr.code_toNat _, hzero⟩
  case clsResult =>
    obtain ⟨hcls, hbits⟩ := s.rep.clsResult.word_fields
    exact ⟨hcls ▸ PulseClass.code_toNat _, hbits⟩
  case pad =>
    obtain ⟨hpad, hlevel, hzero⟩ := s.work.payPad.word_fields
    exact ⟨hpad, hlevel ▸ Level.code_toNat _, hzero⟩

/-! ### The entries of the arrays -/

theorem hostRead_address {s : State} (hp : s.params.legal = true) {q : Place} (hq : q.within s.params) :
    hostRead s (BitVec.ofNat 14 q.address) = s.readPlace q := by
  rw [hostRead, locate_address hp hq]

/-- The reserved word of a RAW entry (rule R32). -/
theorem locate_rawReserved {p : Params} (hp : p.legal = true) {i : Nat} (hi : i < p.rawCap) :
    locate p (BitVec.ofNat 14 (0x1003 + 4 * i)) = .unmapped := by
  obtain ⟨-, -, hraw, -⟩ := (legal_iff _).mp hp
  obtain ⟨-, -, -, hreserved⟩ := rawPlace_words
  have hword : (BitVec.ofNat 14 (0x1003 + 4 * i)).toNat = 0x1003 + 4 * i := Nat.mod_eq_of_lt (by omega)
  rw [locate_raw hp (by omega) (by omega), hword, show 0x1003 + 4 * i - 0x1000 = 4 * i + 3 by omega,
    hreserved]

/-- The word of a pattern level reads as the number of its code. -/
theorem PatLevel.word_toNat (l : PatLevel) : (l.code.setWidth 32).toNat = patLevelNumber l := by
  rw [BitVec.toNat_setWidth_of_le (by omega), l.code_toNat]

/-- The word of a level reads as the number of its code. -/
theorem Level.word_toNat (l : Level) : (l.code.setWidth 32).toNat = levelNumber l := by
  rw [BitVec.toNat_setWidth_of_le (by omega), l.code_toNat]

theorem levels_word_toNat (l0 l1 : Level) :
    (0#30 ++ l1.code ++ l0.code : Word).toNat = levelNumber l0 + 2 * levelNumber l1 := by
  cases l0 <;> cases l1 <;> rfl

theorem getD_of_getElem? {α : Type} {l : List α} {i : Nat} {x : α} (d : α) (h : l[i]? = some x) :
    l.getD i d = x ∧ i < l.length := by
  obtain ⟨hlt, rfl⟩ := List.getElem?_eq_some_iff.mp h
  exact ⟨List.getD_eq_getElem l d hlt, hlt⟩

/-- Settles O16, array by array: the words of an entry are found at their addresses, and the element
under the entry's index is the entry. -/
theorem hostReadsDeliverTheArrayEntries : Obligations.HostReadsDeliverTheArrayEntries := by
  intro s hshape
  obtain ⟨hlegal, hstart, hstop, hraw, hunits, hframe⟩ := hshape
  have word : ∀ q : Place, q.within s.params → hostRead s (BitVec.ofNat 14 q.address) = s.readPlace q :=
    fun q => hostRead_address hlegal
  refine ⟨fun i x h => ?start, fun i x h => ?stop, fun i x h => ?frame, fun i x h => ?raw,
    fun j x h => ?unit⟩
  case start =>
    obtain ⟨rfl, hi⟩ := getD_of_getElem? { level := .low, mult := 0#32 } h
    rw [hstart] at hi
    exact ⟨rfl, (congrArg _ (word (.startLevel i) hi)).trans (PatLevel.word_toNat _), word (.startMult i) hi⟩
  case stop =>
    obtain ⟨rfl, hi⟩ := getD_of_getElem? { level := .low, mult := 0#32 } h
    rw [hstop] at hi
    exact ⟨rfl, (congrArg _ (word (.stopLevel i) hi)).trans (PatLevel.word_toNat _), word (.stopMult i) hi⟩
  case frame =>
    obtain ⟨rfl, hi⟩ := getD_of_getElem? 0#8 h
    rw [hframe] at hi
    exact ⟨rfl, (congrArg _ (word (.frame i) hi)).trans (BitVec.toNat_setWidth_of_le (by omega))⟩
  case raw =>
    obtain ⟨rfl, hi⟩ := getD_of_getElem? { dur0 := 0#32, dur1 := 0#32, level0 := .low, level1 := .low } h
    rw [hraw] at hi
    exact ⟨rfl, word (.rawDur0 i) hi, word (.rawDur1 i) hi,
      (congrArg _ (word (.rawLevels i) hi)).trans (levels_word_toNat ..),
      congrArg s.readPlace (locate_rawReserved hlegal hi)⟩
  case unit =>
    obtain ⟨rfl, hj⟩ := getD_of_getElem? { level := .low, dur := 0#32 } h
    rw [hunits] at hj
    exact ⟨rfl, word (.unitDur j) hj, (congrArg _ (word (.unitLevel j) hj)).trans (Level.word_toNat _)⟩

/-! ### Accesses that hit nothing -/

/-- A read-only register, by its address. -/
theorem writePlace_readOnly_scalar (s : State) (v : Word) {n : Nat}
    (h : (0x001 ≤ n ∧ n ≤ 0x005) ∨ n = 0x007 ∨ (0x011 ≤ n ∧ n ≤ 0x014) ∨ n = 0x016 ∨ n = 0x017) :
    s.writePlace v (scalarPlace n) = s := by
  have hn : n < 0x18 := by omega
  interval_cases n <;> first | rfl | omega

/-- Settles O17: an existing place lies at a listed address, so an address that is not listed is unmapped;
and a write to a read-only place is ignored. -/
theorem ignoredAccessesReadZeroAndChangeNothing : Obligations.IgnoredAccessesReadZeroAndChangeNothing := by
  intro s a v hlegal
  obtain ⟨hfour, -, hraw, -, hpat⟩ := (legal_iff _).mp hlegal
  refine ⟨fun hunlisted => ?unlisted, fun hreadOnly => ?readOnly⟩
  case unlisted =>
    have hmap : locate s.params a = .unmapped := by
      refine (locate_fits s.params a).resolve_right fun ⟨hexists, haddr⟩ => hunlisted ?_
      rw [← haddr]
      generalize locate s.params a = q at hexists
      cases q <;> simp only [Place.within, Place.address] at hexists ⊢ <;> omega
    exact ⟨by rw [hostRead, hmap]; rfl, by rw [hostWrite, hmap]; rfl⟩
  case readOnly =>
    by_cases hscalar : a.toNat < 0x20
    · rw [hostWrite, locate_scalar hscalar]
      exact writePlace_readOnly_scalar s v (by omega)
    · rw [hostWrite, locate_unit hlegal (by omega) (by omega)]
      split <;> rfl

end Sys2Proof.Machine

/-! ## What a register write stores, and what it leaves -/

namespace Sys2Proof.Machine

theorem getD_set_self {α : Type} {l : List α} {i : Nat} (x d : α) (h : i < l.length) :
    (l.set i x).getD i d = x := by
  rw [getD_set, if_pos ⟨rfl, h⟩]

/-! ### The element that a write to an array word leaves -/

section
variable {s : State} {v : Word} {i : Nat}

theorem startPatAt_write_startLevel (h : i < s.cfg.startPat.length) :
    (s.writePlace v (.startLevel i)).startPatAt i =
      { s.startPatAt i with level := PatLevel.ofBits v[1] v[0] } := getD_set_self _ _ h

theorem startPatAt_write_startMult (h : i < s.cfg.startPat.length) :
    (s.writePlace v (.startMult i)).startPatAt i = { s.startPatAt i with mult := v } := getD_set_self _ _ h

theorem stopPatAt_write_stopLevel (h : i < s.cfg.stopPat.length) :
    (s.writePlace v (.stopLevel i)).stopPatAt i =
      { s.stopPatAt i with level := PatLevel.ofBits v[1] v[0] } := getD_set_self _ _ h

theorem stopPatAt_write_stopMult (h : i < s.cfg.stopPat.length) :
    (s.writePlace v (.stopMult i)).stopPatAt i = { s.stopPatAt i with mult := v } := getD_set_self _ _ h

theorem rawAt_write_rawDur0 (h : i < s.inp.raw.length) :
    (s.writePlace v (.rawDur0 i)).rawAt i = { s.rawAt i with dur0 := v } := getD_set_self _ _ h

theorem rawAt_write_rawDur1 (h : i < s.inp.raw.length) :
    (s.writePlace v (.rawDur1 i)).rawAt i = { s.rawAt i with dur1 := v } := getD_set_self _ _ h

theorem rawAt_write_rawLevels (h : i < s.inp.raw.length) :
    (s.writePlace v (.rawLevels i)).rawAt i =
      { s.rawAt i with level0 := Level.ofBit v[0], level1 := Level.ofBit v[1] } := getD_set_self _ _ h

theorem frameAt_write_frame (hopen : s.rep.status.validated = false) (h : i < s.out.frame.length) :
    (s.writePlace v (.frame i)).frameAt i = v.extractLsb' 0 8 := by
  rw [State.writePlace, if_neg (by simp [hopen])]
  exact getD_set_self _ _ h

theorem write_bitCount (hopen : s.rep.status.validated = false) :
    (s.writePlace v .bitCount).out.bitCount = v := by
  rw [State.writePlace, if_neg (by simp [hopen])]

end

/-! ### Reading back -/

theorem hostRead_hostWrite_same (s : State) (a : Addr) (v : Word) :
    hostRead (hostWrite s a v) a = (s.writePlace v (locate s.params a)).readPlace (locate s.params a) := by
  obtain ⟨hparams, -⟩ := writePlace_keeps s v (locate s.params a)
  rw [hostRead, hostWrite, hparams]

/-- The low `k` bits of a word, read as a word, are the word masked. -/
theorem setWidth_extract_low (v : Word) {k : Nat} (hk : k ≤ 32) :
    (v.extractLsb' 0 k).setWidth 32 = v &&& BitVec.ofNat 32 (2 ^ k - 1) := by
  rw [and_low_bits v hk, BitVec.setWidth_eq_extractLsb' hk]

/-- The 32-bit registers that are always writable read back what was written. -/
theorem readBack_scalar (s : State) (v : Word) {n : Nat}
    (h : n = 0x006 ∨ n = 0x008 ∨ n = 0x009 ∨ (0x00B ≤ n ∧ n ≤ 0x010)) :
    (s.writePlace v (scalarPlace n)).readPlace (scalarPlace n) = v := by
  have hn : n < 0x18 := by omega
  interval_cases n <;> first | rfl | omega

theorem readBack_start {s : State} {a : Addr} (v : Word) (hlen : s.cfg.startPat.length = s.params.patCap)
    (h0 : 0x20 ≤ a.toNat) (h : a.toNat < 0x20 + 2 * s.params.patCap) :
    hostRead (hostWrite s a v) a = if a.toNat % 2 = 0 then v &&& 3#32 else v := by
  rw [hostRead_hostWrite_same, locate_start h0 h]
  split
  · rw [State.readPlace, startPatAt_write_startLevel (by omega), patLevel_word_ofBits]
  · rw [State.readPlace, startPatAt_write_startMult (by omega)]

theorem readBack_stop {s : State} {a : Addr} (v : Word) (hlen : s.cfg.stopPat.length = s.params.patCap)
    (hp : s.params.patCap ≤ 16) (h0 : 0x40 ≤ a.toNat) (h : a.toNat < 0x40 + 2 * s.params.patCap) :
    hostRead (hostWrite s a v) a = if a.toNat % 2 = 0 then v &&& 3#32 else v := by
  rw [hostRead_hostWrite_same, locate_stop hp h0 h]
  split
  · rw [State.readPlace, stopPatAt_write_stopLevel (by omega), patLevel_word_ofBits]
  · rw [State.readPlace, stopPatAt_write_stopMult (by omega)]

theorem readBack_raw {s : State} {a : Addr} (v : Word) (hlen : s.inp.raw.length = s.params.rawCap)
    (hp : s.params.legal = true) (h0 : 0x1000 ≤ a.toNat) (h : a.toNat < 0x1000 + 4 * s.params.rawCap)
    (hword : a.toNat % 4 ≠ 3) :
    hostRead (hostWrite s a v) a = if a.toNat % 4 = 2 then v &&& 3#32 else v := by
  rw [hostRead_hostWrite_same, locate_raw hp h0 h]
  rcases rawPlace_cases (a.toNat - 0x1000) with
      ⟨hoff, hplace⟩ | ⟨hoff, hplace⟩ | ⟨hoff, hplace⟩ | ⟨hoff, -⟩
  · rw [hplace, State.readPlace, rawAt_write_rawDur0 (by omega), if_neg (by omega)]
  · rw [hplace, State.readPlace, rawAt_write_rawDur1 (by omega), if_neg (by omega)]
  · rw [hplace, State.readPlace, rawAt_write_rawLevels (by omega), levels_word_ofBit, if_pos (by omega)]
  · omega

theorem readBack_frame {s : State} {a : Addr} (v : Word) (hlen : s.out.frame.length = s.params.frameCap)
    (hp : s.params.patCap ≤ 16) (hopen : s.rep.status.validated = false)
    (h0 : 0x100 ≤ a.toNat) (h : a.toNat < 0x100 + s.params.frameCap) :
    hostRead (hostWrite s a v) a = v &&& 0xFF#32 := by
  rw [hostRead_hostWrite_same, locate_frame hp h0 h, State.readPlace, frameAt_write_frame hopen (by omega)]
  exact setWidth_extract_low v (by omega)

/-- Settles O18, region by region of the address map. -/
theorem registerWritesReadBackTheirFields : Obligations.RegisterWritesReadBackTheirFields := by
  intro s a v hshape
  obtain ⟨hlegal, hstart, hstop, hraw, -, hframe⟩ := hshape
  obtain ⟨-, -, -, -, hpat⟩ := (legal_iff _).mp hlegal
  refine ⟨fun h => ?scalar, fun h => ?ctrl, ?patterns, readBack_raw v hraw hlegal,
    fun hopen => ⟨fun h => ?bitCount, readBack_frame v hframe hpat hopen⟩⟩
  case scalar =>
    rw [hostRead_hostWrite_same, locate_scalar (by omega)]
    exact readBack_scalar s v h
  case ctrl =>
    rw [hostRead_hostWrite_same, locate_scalar (by omega), h]
    exact setWidth_extract_low v (by omega)
  case patterns =>
    rintro (⟨h0, h⟩ | ⟨h0, h⟩)
    · exact readBack_start v hstart h0 h
    · exact readBack_stop v hstop hpat h0 h
  case bitCount =>
    rw [hostRead_hostWrite_same, locate_scalar (by omega), h]
    exact write_bitCount hopen

/-! ### The fields under their codes -/

theorem hostWrite_address {s : State} (v : Word) (hp : s.params.legal = true) {q : Place}
    (hq : q.within s.params) : hostWrite s (BitVec.ofNat 14 q.address) v = s.writePlace v q := by
  rw [hostWrite, locate_address hp hq]

theorem and_low_bits_toNat (v : Word) {k : Nat} (hk : k ≤ 32) :
    (v &&& BitVec.ofNat 32 (2 ^ k - 1)).toNat = v.toNat % 2 ^ k := by
  rw [and_low_bits v hk, BitVec.toNat_setWidth_of_le hk, BitVec.toNat_setWidth]

theorem patLevelNumber_ofBits (v : Word) : patLevelNumber (PatLevel.ofBits v[1] v[0]) = v.toNat % 4 := by
  rw [← PatLevel.word_toNat, patLevel_word_ofBits]
  exact and_low_bits_toNat v (k := 2) (by omega)

/-- The two level bits of a RAW LEVELS word (rules R12 and R32). -/
theorem levelNumbers_ofBit (v : Word) :
    levelNumber (Level.ofBit v[0]) = v.toNat % 2 ∧ levelNumber (Level.ofBit v[1]) = v.toNat / 2 % 2 := by
  have hlow : levelNumber (Level.ofBit v[0]) = v.toNat % 2 := by
    rw [← Level.word_toNat, level_word_ofBit]
    exact and_low_bits_toNat v (k := 1) (by omega)
  have hboth : levelNumber (Level.ofBit v[0]) + 2 * levelNumber (Level.ofBit v[1]) = v.toNat % 4 := by
    rw [← levels_word_toNat, levels_word_ofBit]
    exact and_low_bits_toNat v (k := 2) (by omega)
  exact ⟨hlow, by omega⟩

/-- The stored bits of CTRL taken from a word (rule R25). -/
theorem ctrl_of_word (v : Word) :
    policyNumber (ctrlPolicy (v.extractLsb' 0 4)) = v.toNat % 4 ∧ ctrlDiff (v.extractLsb' 0 4) = v[2] ∧
      ctrlLenient (v.extractLsb' 0 4) = v[3] := by
  have hcode : ∀ c : Ctrl, policyNumber (ctrlPolicy c) = c.toNat % 4 := by decide
  refine ⟨?_, by simp [ctrlDiff], by simp [ctrlLenient]⟩
  rw [hcode, ← BitVec.setWidth_eq_extractLsb' (by omega), BitVec.toNat_setWidth]
  omega

/-- Settles O19: each address is that of its place, and the place takes its field of the word. -/
theorem registerWritesStoreTheirFields : Obligations.RegisterWritesStoreTheirFields := by
  intro s v hshape wr
  obtain ⟨hlegal, hstart, hstop, hraw, -, hframe⟩ := hshape
  have word : ∀ q : Place, q.within s.params → wr q.address = s.writePlace v q :=
    fun q => hostWrite_address v hlegal
  refine ⟨rfl, rfl, rfl, ctrl_of_word v, rfl, rfl, rfl, rfl, rfl, rfl, fun i hi => ?patterns,
    fun i hi => ?raw, fun hopen => ⟨write_bitCount hopen, fun i hi => ?frame⟩⟩
  case patterns =>
    have hlevel : wr (0x020 + 2 * i) = _ := word (.startLevel i) hi
    have hmult : wr (0x021 + 2 * i) = _ := word (.startMult i) hi
    have hlevel' : wr (0x040 + 2 * i) = _ := word (.stopLevel i) hi
    have hmult' : wr (0x041 + 2 * i) = _ := word (.stopMult i) hi
    rw [hlevel, hmult, hlevel', hmult', startPatAt_write_startLevel (by omega),
      startPatAt_write_startMult (by omega), stopPatAt_write_stopLevel (by omega),
      stopPatAt_write_stopMult (by omega)]
    exact ⟨patLevelNumber_ofBits v, rfl, patLevelNumber_ofBits v, rfl⟩
  case raw =>
    have hdur0 : wr (0x1000 + 4 * i) = _ := word (.rawDur0 i) hi
    have hdur1 : wr (0x1001 + 4 * i) = _ := word (.rawDur1 i) hi
    have hlevels : wr (0x1002 + 4 * i) = _ := word (.rawLevels i) hi
    rw [hdur0, hdur1, hlevels, rawAt_write_rawDur0 (by omega), rawAt_write_rawDur1 (by omega),
      rawAt_write_rawLevels (by omega)]
    exact ⟨rfl, rfl, levelNumbers_ofBit v⟩
  case frame =>
    have hbyte : wr (0x100 + i) = _ := word (.frame i) hi
    rw [hbyte, frameAt_write_frame hopen (by omega), ← BitVec.setWidth_eq_extractLsb' (by omega),
      BitVec.toNat_setWidth]

/-! ### Words other than the one written -/

/-- A field of an element after another element, or this one but with the same field, is stored. -/
theorem getD_set_field {α β : Type} (f : α → β) {l : List α} {i : Nat} {x d : α} (j : Nat)
    (h : j = i → f x = f (l.getD i d)) : f ((l.set i x).getD j d) = f (l.getD j d) := by
  rw [getD_set]
  split
  next hat => obtain ⟨rfl, -⟩ := hat; exact h rfl
  next => rfl

section
variable {s : State} {i : Nat} {q : Place}

/-- START_PAT with entry `i` stored: only the words of the fields that changed change. -/
theorem readPlace_set_startPat {x : PatEntry}
    (hlevel : q = .startLevel i → x.level = (s.startPatAt i).level)
    (hmult : q = .startMult i → x.mult = (s.startPatAt i).mult) :
    State.readPlace { s with cfg.startPat := s.cfg.startPat.set i x } q = s.readPlace q := by
  cases q with
  | startLevel j =>
    exact congrArg (·.code.setWidth 32) (getD_set_field PatEntry.level j fun h => hlevel (h ▸ rfl))
  | startMult j => exact getD_set_field PatEntry.mult j fun h => hmult (h ▸ rfl)
  | _ => rfl

theorem readPlace_set_stopPat {x : PatEntry}
    (hlevel : q = .stopLevel i → x.level = (s.stopPatAt i).level)
    (hmult : q = .stopMult i → x.mult = (s.stopPatAt i).mult) :
    State.readPlace { s with cfg.stopPat := s.cfg.stopPat.set i x } q = s.readPlace q := by
  cases q with
  | stopLevel j =>
    exact congrArg (·.code.setWidth 32) (getD_set_field PatEntry.level j fun h => hlevel (h ▸ rfl))
  | stopMult j => exact getD_set_field PatEntry.mult j fun h => hmult (h ▸ rfl)
  | _ => rfl

theorem readPlace_set_raw {x : RawSymbol}
    (hdur0 : q = .rawDur0 i → x.dur0 = (s.rawAt i).dur0)
    (hdur1 : q = .rawDur1 i → x.dur1 = (s.rawAt i).dur1)
    (hlevels : q = .rawLevels i → x.level0 = (s.rawAt i).level0 ∧ x.level1 = (s.rawAt i).level1) :
    State.readPlace { s with inp.raw := s.inp.raw.set i x } q = s.readPlace q := by
  cases q with
  | rawDur0 j => exact getD_set_field RawSymbol.dur0 j fun h => hdur0 (h ▸ rfl)
  | rawDur1 j => exact getD_set_field RawSymbol.dur1 j fun h => hdur1 (h ▸ rfl)
  | rawLevels j =>
    exact congrArg₂ (fun l1 l0 => 0#30 ++ l1.code ++ l0.code)
      (getD_set_field RawSymbol.level1 j fun h => (hlevels (h ▸ rfl)).2)
      (getD_set_field RawSymbol.level0 j fun h => (hlevels (h ▸ rfl)).1)
  | _ => rfl

theorem readPlace_set_frame {x : Byte} (hbyte : q ≠ .frame i) :
    State.readPlace { s with out.frame := s.out.frame.set i x } q = s.readPlace q := by
  cases q with
  | frame j => exact getD_set_field (BitVec.setWidth 32) j fun h => absurd (h ▸ rfl) hbyte
  | _ => rfl

end

/-- A register write changes no place but its own. -/
theorem readPlace_writePlace_of_ne (s : State) (v : Word) {p q : Place} (hne : q ≠ p) :
    (s.writePlace v p).readPlace q = s.readPlace q := by
  cases p
  case startLevel i => exact readPlace_set_startPat (fun h => absurd h hne) fun _ => rfl
  case startMult i => exact readPlace_set_startPat (fun _ => rfl) fun h => absurd h hne
  case stopLevel i => exact readPlace_set_stopPat (fun h => absurd h hne) fun _ => rfl
  case stopMult i => exact readPlace_set_stopPat (fun _ => rfl) fun h => absurd h hne
  case rawDur0 i => exact readPlace_set_raw (fun h => absurd h hne) (fun _ => rfl) fun _ => ⟨rfl, rfl⟩
  case rawDur1 i => exact readPlace_set_raw (fun _ => rfl) (fun h => absurd h hne) fun _ => ⟨rfl, rfl⟩
  case rawLevels i => exact readPlace_set_raw (fun _ => rfl) (fun _ => rfl) fun h => absurd h hne
  case frame i =>
    rw [State.writePlace]
    split
    · rfl
    · exact readPlace_set_frame hne
  case bitCount =>
    rw [State.writePlace]
    split
    · rfl
    · cases q <;> first | rfl | exact absurd rfl hne
  case clsDur | base | tol | ctrl | numDataBits | expectedSyms | rawSkipHead | startLen | stopLen |
      symCount =>
    cases q <;> first | rfl | exact absurd rfl hne
  all_goals rfl

/-- Settles O20: two addresses share a place only when the map lists neither, and an unmapped word reads 0
whatever is written. -/
theorem registerWritesLeaveOtherWordsAlone : Obligations.RegisterWritesLeaveOtherWordsAlone := by
  intro s a b v hab
  obtain ⟨hparams, -⟩ := writePlace_keeps s v (locate s.params a)
  rw [hostRead, hostWrite, hparams]
  by_cases hplace : locate s.params b = locate s.params a
  · have hunmapped : locate s.params b = .unmapped :=
      Classical.byContradiction fun hm => hab (locate_injective hplace hm).symm
    rw [hostRead, hunmapped]
    rfl
  · exact readPlace_writePlace_of_ne s v hplace

end Sys2Proof.Machine

/-! ## Doing the same thing twice (rule R71) -/

namespace Sys2Proof.Machine

/-! ### Register writes -/

/-- Storing twice the same change of an element is storing it once. -/
theorem set_getD_twice {α : Type} {f : α → α} (hf : ∀ x, f (f x) = f x) (l : List α) (i : Nat) (d : α) :
    (l.set i (f (l.getD i d))).set i (f ((l.set i (f (l.getD i d))).getD i d)) =
      l.set i (f (l.getD i d)) := by
  rw [List.set_set]
  by_cases hi : i < l.length
  · rw [getD_set_self _ _ hi, hf]
  · rw [List.set_eq_of_length_le (by omega), List.set_eq_of_length_le (by omega)]

theorem writePlace_twice (s : State) (v : Word) (q : Place) :
    (s.writePlace v q).writePlace v q = s.writePlace v q := by
  cases q
  case startLevel i =>
    exact congrArg (fun l => { s with cfg.startPat := l })
      (set_getD_twice (f := fun x : PatEntry => { x with level := PatLevel.ofBits v[1] v[0] })
        (fun _ => rfl) s.cfg.startPat i _)
  case startMult i =>
    exact congrArg (fun l => { s with cfg.startPat := l })
      (set_getD_twice (f := fun x : PatEntry => { x with mult := v }) (fun _ => rfl) s.cfg.startPat i _)
  case stopLevel i =>
    exact congrArg (fun l => { s with cfg.stopPat := l })
      (set_getD_twice (f := fun x : PatEntry => { x with level := PatLevel.ofBits v[1] v[0] })
        (fun _ => rfl) s.cfg.stopPat i _)
  case stopMult i =>
    exact congrArg (fun l => { s with cfg.stopPat := l })
      (set_getD_twice (f := fun x : PatEntry => { x with mult := v }) (fun _ => rfl) s.cfg.stopPat i _)
  case rawDur0 i =>
    exact congrArg (fun l => { s with inp.raw := l })
      (set_getD_twice (f := fun x : RawSymbol => { x with dur0 := v }) (fun _ => rfl) s.inp.raw i _)
  case rawDur1 i =>
    exact congrArg (fun l => { s with inp.raw := l })
      (set_getD_twice (f := fun x : RawSymbol => { x with dur1 := v }) (fun _ => rfl) s.inp.raw i _)
  case rawLevels i =>
    exact congrArg (fun l => { s with inp.raw := l })
      (set_getD_twice
        (f := fun x : RawSymbol => { x with level0 := Level.ofBit v[0], level1 := Level.ofBit v[1] })
        (fun _ => rfl) s.inp.raw i _)
  case bitCount =>
    cases hlock : s.rep.status.validated <;> simp [State.writePlace, hlock]
  case frame i =>
    cases hlock : s.rep.status.validated <;> simp [State.writePlace, hlock]
  all_goals rfl

theorem hostWrite_twice (s : State) (a : Addr) (v : Word) :
    hostWrite (hostWrite s a v) a v = hostWrite s a v := by
  obtain ⟨hparams, -⟩ := writePlace_keeps s v (locate s.params a)
  rw [hostWrite, hostWrite, hparams, writePlace_twice]

/-! ### What the clears of a stage command leave

Each clear leaves what lies upstream of its stage, DONE, and cleared registers. -/

theorem clearValidation_eq (s : State) :
    s.accept.clearErr.clearValidation =
      { s with
        out := { s.out with humX10 := 0#32, tempX10 := 0#32 }
        rep := { s.rep with
          status := { Status.zero with done := s.rep.status.done }, errIndex := -1#32 } } := rfl

theorem clearFrame_eq (s : State) :
    s.accept.clearErr.clearFrame =
      { s with
        out := s.out.blank
        rep := { s.rep with
          status := { Status.zero with done := s.rep.status.done }, errIndex := -1#32
          bitErrCount := 0#32, bitErrFirst := -1#32 } } := by
  simp only [State.accept, State.clearFrame, State.clearValidation,
    State.clearErr, Status.zero, Output.blank, List.map_const']

theorem clearPayload_eq (s : State) :
    s.accept.clearErr.clearPayload =
      { s with
        work := { s.work with payStart := 0#32, payCount := 0#32, payPad := Pad.zero }
        out := s.out.blank
        rep := { s.rep with
          status := { Status.zero with done := s.rep.status.done }, errIndex := -1#32
          bitErrCount := 0#32, bitErrFirst := -1#32 } } := by
  simp only [State.accept, State.clearPayload, State.clearFrame, State.clearValidation,
    State.clearErr, Status.zero, Output.blank, List.map_const']

theorem clearUnits_eq (s : State) :
    s.accept.clearErr.clearUnits =
      { s with
        work := { s.work with unitCount := 0#32, payStart := 0#32, payCount := 0#32, payPad := Pad.zero }
        out := s.out.blank
        rep := { s.rep with
          status := { Status.zero with done := s.rep.status.done }, errIndex := -1#32
          bitErrCount := 0#32, bitErrFirst := -1#32, skipCount := 0#32 } } := by
  simp only [State.accept, State.clearUnits, State.clearPayload, State.clearFrame, State.clearValidation,
    State.clearErr, Status.zero, Output.blank, List.map_const']

/-- A frame of the same length blanks to the same. -/
theorem blank_congr {o o' : Output} (h : o'.frame.length = o.frame.length) : o'.blank = o.blank := by
  rw [Output.blank, Output.blank, h]

theorem blank_twice (o : Output) : o.blank.blank = o.blank :=
  blank_congr (List.length_replicate ..)

/-! No clear touches what lies upstream of every command. -/

theorem clearValidation_sameInputs (s : State) : s.sameInputs s.accept.clearErr.clearValidation := by
  simp [State.sameInputs]

theorem clearFrame_sameInputs (s : State) : s.sameInputs s.accept.clearErr.clearFrame := by
  simp [State.sameInputs]

theorem clearPayload_sameInputs (s : State) : s.sameInputs s.accept.clearErr.clearPayload := by
  simp [State.sameInputs]

theorem clearUnits_sameInputs (s : State) : s.sameInputs s.accept.clearErr.clearUnits := by
  simp [State.sameInputs]

theorem clearPipeline_sameInputs (s : State) : s.sameInputs s.accept.clearPipeline := by
  simp [State.sameInputs]

/-! ### The stages commute with setting DONE -/

theorem State.finish_finish (s : State) : s.finish.finish = s.finish := rfl

theorem normalizeHalves_finish (hs : List (Nat × Half)) (s : State) :
    normalizeHalves hs s.finish = (normalizeHalves hs s).finish := by
  induction hs generalizing s with
  | nil => rfl
  | cons p hs ih =>
    obtain ⟨i, half⟩ := p
    have hraw : s.finish.rawAt i = s.rawAt i := rfl
    have hlenient : s.finish.lenient = s.lenient := rfl
    simp only [normalizeHalves, hraw, State.finish_cfg, hlenient]
    split
    · exact ih s
    · split
      · exact ih (s.emitUnit _)
      · exact ih ((s.emitUnit _).emitUnit _)
      · split
        · exact ih s.countSkip
        · rfl

theorem normalizeStage_finish (s : State) : normalizeStage s.finish = (normalizeStage s).finish :=
  normalizeHalves_finish (halvesOf s.symCount) s

theorem writePayload_finish (s : State) : s.finish.writePayload = s.writePayload.finish := by
  rw [writePayload_eq, writePayload_eq]
  rfl

theorem matchStage_finish (s : State) : matchStage s.finish = (matchStage s).finish := by
  have hcount : s.finish.unitCount < s.finish.startLen + s.finish.stopLen ↔
      s.unitCount < s.startLen + s.stopLen := Iff.rfl
  have hstart : startMismatch s.finish = startMismatch s := rfl
  have hstop : stopMismatch s.finish = stopMismatch s := rfl
  unfold matchStage
  rw [hstart, hstop, writePayload_finish]
  simp only [hcount]
  split
  · rfl
  · cases startMismatch s with
    | some i => rfl
    | none => cases stopMismatch s <;> rfl

theorem assembled_finish (order : BitOrder) (os : List BitOutcome) (s : State) :
    s.finish.assembled order os = (s.assembled order os).finish := by
  simp only [State.assembled, placeBits_eq]
  rfl

theorem assembleRaw_finish (order : BitOrder) (n : Nat) (f : RawSymbol → BitOutcome) (s : State) :
    assembleRaw order n f s.finish = (assembleRaw order n f s).finish := by
  unfold assembleRaw
  rw [apply_ite State.finish, ← assembled_finish]
  rfl

theorem assemblePdStage_outcome (s : State) : AssembleOutcome s (assemblePdStage s) :=
  assembleRaw_outcome ..

theorem assemblePdStage_finish (s : State) : assemblePdStage s.finish = (assemblePdStage s).finish :=
  assembleRaw_finish .lsb s.numDataBits (pulseDistanceOutcome s.cfg.base s.cfg.tol) s

theorem assemblePairs_finish (f : Level → Level → BitOutcome) (s : State) :
    assemblePairs f s.finish = (assemblePairs f s).finish := by
  unfold assemblePairs
  dsimp only
  rw [apply_ite State.finish, apply_ite State.finish, ← assembled_finish]
  rfl

theorem validateDhtStage_finish (s : State) : validateDhtStage s.finish = (validateDhtStage s).finish := by
  unfold validateDhtStage
  rw [apply_ite State.finish, apply_ite State.finish]
  rfl

theorem writeNecChecks_finish (s : State) : s.finish.writeNecChecks = s.writeNecChecks.finish := by
  unfold State.writeNecChecks
  dsimp only
  rw [apply_ite State.finish]
  rfl

theorem validateNecStage_finish (s : State) : validateNecStage s.finish = (validateNecStage s).finish := by
  rw [validateNecStage, writeNecChecks_finish]
  rfl

theorem validateNoneStage_finish (s : State) :
    validateNoneStage s.finish = (validateNoneStage s).finish := rfl

/-! ### The stages that write UNIT

A second run finds the pulses of the first in UNIT and stores the same again. -/

/-- `s` with UNIT holding `us`. -/
def State.withUnits (s : State) (us : List UnitPulse) : State := { s with work.units := us }

theorem storeFrom_twice {us es : List UnitPulse} (h : es.length ≤ us.length) :
    storeFrom (storeFrom us 0 es) 0 es = storeFrom us 0 es := by
  rw [storeFrom_eq _ _ _ (by simpa using h), storeFrom_eq us _ _ (by simpa using h)]
  simp

theorem afterHalves_twice {s : State} {ok : List (Nat × Half)} (hzero : s.work.unitCount = 0#32)
    (hroom : (ok.flatMap s.halfEmits).length ≤ s.work.units.length) :
    (s.withUnits (s.afterHalves ok).work.units).afterHalves ok = s.afterHalves ok := by
  have hemits : (s.withUnits (s.afterHalves ok).work.units).halfEmits = s.halfEmits :=
    halfEmits_congr rfl rfl
  have hskips : (s.withUnits (s.afterHalves ok).work.units).halfSkips = s.halfSkips :=
    halfSkips_congr rfl rfl
  have hstore : storeFrom (storeFrom s.work.units s.unitCount (ok.flatMap s.halfEmits)) s.unitCount
      (ok.flatMap s.halfEmits) = storeFrom s.work.units s.unitCount (ok.flatMap s.halfEmits) := by
    rw [State.unitCount, hzero]
    exact storeFrom_twice hroom
  rw [State.afterHalves, hemits, hskips]
  exact congrArg (State.withUnits (s.afterHalves ok)) hstore

/-- The halves of an accepted capture have room in UNIT (rule R126). -/
theorem emits_fit {s : State} (hshape : s.shaped) (hfits : s.captureFits) {ok : List (Nat × Half)}
    (hok : ok.length ≤ 2 * s.symCount) : (ok.flatMap s.halfEmits).length ≤ s.work.units.length := by
  obtain ⟨-, -, -, -, hunits, -⟩ := hshape
  have hemits := length_flatMap_le ok s.halfEmits 2 (halfEmits_length s)
  unfold State.captureFits at hfits
  rw [hunits, Params.unitCap]
  omega

theorem normalizeStage_twice {s : State} (hshape : s.shaped) (hzero : s.work.unitCount = 0#32)
    (hfits : s.captureFits) :
    normalizeStage (s.withUnits (normalizeStage s).work.units) = normalizeStage s := by
  obtain ⟨-, -, hcap, -⟩ := (legal_iff _).mp hshape.1
  have hlen := halvesOf_length s.symCount
  have hroom : s.unitCount + 2 * (halvesOf s.symCount).length < 2 ^ 32 := by
    unfold State.captureFits at hfits
    rw [State.unitCount, hzero, hlen]
    simp only [BitVec.toNat_ofNat]
    omega
  have hfails : ∀ us, (s.withUnits us).halfFails = s.halfFails := fun _ => halfFails_congr rfl rfl
  have hwalk : ∀ us, normalizeStage (s.withUnits us) = _ := fun us =>
    normalizeHalves_eq (halvesOf s.symCount) (s.withUnits us) hroom
  have hfirst : normalizeStage s = _ := normalizeHalves_eq (halvesOf s.symCount) s hroom
  simp only [hfails] at hwalk
  cases hd : (halvesOf s.symCount).dropWhile fun p => !s.halfFails p with
  | nil =>
    simp only [hd] at hfirst hwalk
    rw [hfirst, hwalk, afterHalves_twice hzero (emits_fit hshape hfits hlen.le)]
  | cons p rest =>
    simp only [hd] at hfirst hwalk
    rw [hfirst, hwalk, State.raise_work,
      afterHalves_twice hzero (emits_fit hshape hfits ((takeWhile_length_le _ _).trans hlen.le))]

theorem decodeFront_twice {s : State} (hshape : s.shaped) (hzero : s.work.unitCount = 0#32)
    (hfits : s.captureFits) : decodeFront (s.withUnits (decodeFront s).work.units) = decodeFront s := by
  have hpolicy : ∀ us, (s.withUnits us).policy = s.policy := fun _ => rfl
  unfold decodeFront
  rw [hpolicy]
  split
  · have hunits :
        (unlessError matchStage (normalizeStage s)).work.units = (normalizeStage s).work.units := by
      unfold unlessError
      split
      · obtain ⟨j, h⟩ | ⟨h, -⟩ := matchStage_outcome (normalizeStage s)
        · rw [h, State.raise_work]
        · rw [h, writePayload_eq]
      · rfl
    rw [hunits, normalizeStage_twice hshape hzero hfits]
  · rfl

theorem decodeStage_twice {s : State} (hshape : s.shaped) (hzero : s.work.unitCount = 0#32)
    (hfits : s.captureFits) : decodeStage (s.withUnits (decodeStage s).work.units) = decodeStage s := by
  have hgate : ∀ us, (s.withUnits us).gateSkips = s.gateSkips := fun _ => rfl
  unfold decodeStage
  rw [hgate]
  split
  · rfl
  · rw [decodeStages_eq, decodeStages_eq, unlessError_keeps_work (validateStage_keeps_work _),
      unlessError_keeps_work (assembleStage_keeps_work _), decodeFront_twice hshape hzero hfits]

/-! ### Clearing again what a stage has written -/

theorem ValidateOutcome.clear_again {s t : State} (h : ValidateOutcome s.accept.clearErr.clearValidation t) :
    t.finish.accept.clearErr.clearValidation = s.accept.clearErr.clearValidation.finish := by
  rw [clearValidation_eq] at h
  rw [clearValidation_eq, clearValidation_eq]
  obtain ⟨_, _, _, _, rfl, -⟩ := h
  rfl

theorem AssembleOutcome.clear_again {s t : State} (h : AssembleOutcome s.accept.clearErr.clearFrame t) :
    t.finish.accept.clearErr.clearFrame = s.accept.clearErr.clearFrame.finish := by
  have hblank : t.finish.out.blank = s.out.blank := by
    obtain ⟨-, -, -, -, -, hframe⟩ := h.keeps
    exact blank_congr (by simpa using hframe)
  rw [clearFrame_eq] at h
  rw [clearFrame_eq, clearFrame_eq, hblank]
  obtain ⟨x, rfl⟩ | ⟨_, _, _, _, -, rfl⟩ := h <;> rfl

/-- What a match stage leaves from `s`: an error of U3 and nothing else, or a payload window. -/
def MatchOutcome (s t : State) : Prop :=
  (∃ j, t = s.raise (mismatchAt j)) ∨
    ∃ (start count : Word) (pad : Pad),
      t = { s with work := { s.work with payStart := start, payCount := count, payPad := pad } }

theorem matchStage_matchOutcome (s : State) : MatchOutcome s (matchStage s) := by
  refine (matchStage_outcome s).imp_right fun ⟨h, _⟩ => ?_
  rw [h, writePayload_eq]
  exact ⟨_, _, _, rfl⟩

theorem MatchOutcome.clear_again {s t : State} (h : MatchOutcome s.accept.clearErr.clearPayload t) :
    t.finish.accept.clearErr.clearPayload = s.accept.clearErr.clearPayload.finish := by
  have hblank : t.finish.out.blank = s.out.blank := by
    refine blank_congr ?_
    obtain ⟨j, rfl⟩ | ⟨_, _, _, rfl⟩ := h <;> simp
  rw [clearPayload_eq] at h
  rw [clearPayload_eq, clearPayload_eq, hblank]
  obtain ⟨j, rfl⟩ | ⟨_, _, _, rfl⟩ := h <;> rfl

/-- Of what a stage may have written, the clear of NORMALIZE leaves DONE and the contents of UNIT. -/
theorem clearUnits_again {s t : State} (h : s.accept.clearErr.clearUnits.keptBy t) :
    t.finish.accept.clearErr.clearUnits =
      (s.accept.clearErr.clearUnits.withUnits t.work.units).finish := by
  obtain ⟨⟨hparams, hcfg, hinp, hpending, hrdata, hresets⟩, -, -, hcls, -, hframe⟩ := h
  have hblank : t.finish.out.blank = s.out.blank := blank_congr (by simpa using hframe)
  simp only [clearUnits_eq] at *
  rw [hblank]
  simp only [State.withUnits, State.finish, hparams, hcfg, hinp, hpending, hrdata, hresets, hcls]

/-- Of what a stage may have written, ClearPipeline leaves the contents of UNIT. -/
theorem clearPipeline_again {s t : State} (h : s.accept.clearPipeline.keptBy t) :
    t.finish.accept.clearPipeline = s.accept.clearPipeline.withUnits t.work.units := by
  obtain ⟨⟨hparams, hcfg, hinp, hpending, hrdata, hresets⟩, -, -, hcls, -, hframe⟩ := h
  have hblank : t.finish.out.blank = s.out.blank := blank_congr (by simpa using hframe)
  simp only [clearPipeline_eq] at *
  rw [hblank]
  simp only [State.withUnits, State.finish, hparams, hcfg, hinp, hpending, hrdata, hresets, hcls]

/-- CLEAR finds nothing left to clear. -/
theorem clearAll_twice {s t : State}
    (ht : { s.accept.clearPipeline with rep.clsResult := ClsResult.zero } = t) :
    { t.accept.clearPipeline with rep.clsResult := ClsResult.zero } = t := by
  rw [clearPipeline_eq] at ht
  rw [clearPipeline_eq, ← ht, blank_twice]

/-! ### The conditions of table T221 -/

/-- A test of table T221 reads configuration, inputs and capacities only. -/
def ReadsInputs (bad : State → Bool) : Prop := ∀ s t : State, s.sameInputs t → bad t = bad s

theorem readsInputs_of_eq {bad : State → Bool}
    (h : ∀ s t : State, bad { t with params := s.params, cfg := s.cfg, inp := s.inp } = bad s) :
    ReadsInputs bad := by
  rintro s t ⟨hparams, hcfg, hinp, -⟩
  rw [← h s t, ← hparams, ← hcfg, ← hinp]

theorem badCapture_readsInputs : ReadsInputs State.badCapture := readsInputs_of_eq fun _ _ => rfl

theorem badPatterns_readsInputs : ReadsInputs State.badPatterns := readsInputs_of_eq fun _ _ => rfl

theorem badAssemble_readsInputs : ReadsInputs State.badAssemble := readsInputs_of_eq fun _ _ => rfl

theorem badValidate_readsInputs : ReadsInputs State.badValidate := readsInputs_of_eq fun _ _ => rfl

theorem badDecode_readsInputs : ReadsInputs State.badDecode := readsInputs_of_eq fun _ _ => rfl

/-! ### The commands -/

/-- A stage command runs twice as once when its test reads what the command keeps, and its second run,
from what its clear leaves, comes to the same state. -/
theorem stageCommand_twice {bad : State → Bool} {clear stage : State → State} {s t : State}
    (hbad : ReadsInputs bad) (hclears : s.sameInputs (clear s.accept))
    (hkeeps : (clear s.accept).keptBy (stage (clear s.accept)))
    (hrerun : bad s = false →
      (stage (clear (stage (clear s.accept)).finish.accept)).finish = (stage (clear s.accept)).finish)
    (ht : stageCommand (bad s) clear stage s = t) : stageCommand (bad t) clear stage t = t := by
  have hinputs : s.sameInputs t := by
    rw [← ht, stageCommand]
    split
    · exact ⟨rfl, rfl, rfl, rfl, rfl, rfl⟩
    · obtain ⟨⟨hp, hc, hi, hpending, hrdata, hresets⟩, -⟩ := hkeeps
      obtain ⟨hp', hc', hi', hpending', hrdata', hresets'⟩ := hclears
      exact ⟨hp.trans hp', hc.trans hc', hi.trans hi', hpending.trans hpending', hrdata.trans hrdata',
        hresets.trans hresets'⟩
  rw [hbad s t hinputs]
  cases hs : bad s with
  | false =>
    rw [hs, stageCommand_good] at ht
    rw [stageCommand_good, ← ht, hrerun hs]
  | true =>
    rw [hs, stageCommand_bad] at ht
    rw [stageCommand_bad, ← ht]
    rfl

/-- The same when the clear leaves, DONE apart, what the first run started from. -/
theorem stageCommand_twice_of_clear {bad : State → Bool} {clear stage : State → State} {s t : State}
    (hbad : ReadsInputs bad) (hclears : s.sameInputs (clear s.accept))
    (hkeeps : (clear s.accept).keptBy (stage (clear s.accept)))
    (hfinish : ∀ x : State, stage x.finish = (stage x).finish)
    (hagain : clear (stage (clear s.accept)).finish.accept = (clear s.accept).finish)
    (ht : stageCommand (bad s) clear stage s = t) : stageCommand (bad t) clear stage t = t :=
  stageCommand_twice hbad hclears hkeeps (fun _ => by rw [hagain, hfinish, State.finish_finish]) ht

section
variable {s t : State} {stage : State → State}

theorem validateCommand_twice (houtcome : ∀ x, ValidateOutcome x (stage x))
    (hfinish : ∀ x : State, stage x.finish = (stage x).finish)
    (ht : stageCommand s.badValidate (fun s => s.clearErr.clearValidation) stage s = t) :
    stageCommand t.badValidate (fun s => s.clearErr.clearValidation) stage t = t :=
  have h := houtcome s.accept.clearErr.clearValidation
  stageCommand_twice_of_clear (clear := fun s => s.clearErr.clearValidation) (s := s) badValidate_readsInputs
    (clearValidation_sameInputs s) h.keeps hfinish h.clear_again ht

theorem assembleCommand_twice (houtcome : ∀ x, AssembleOutcome x (stage x))
    (hfinish : ∀ x : State, stage x.finish = (stage x).finish)
    (ht : stageCommand s.badAssemble (fun s => s.clearErr.clearFrame) stage s = t) :
    stageCommand t.badAssemble (fun s => s.clearErr.clearFrame) stage t = t :=
  have h := houtcome s.accept.clearErr.clearFrame
  stageCommand_twice_of_clear (clear := fun s => s.clearErr.clearFrame) (s := s) badAssemble_readsInputs
    (clearFrame_sameInputs s) h.keeps hfinish h.clear_again ht

theorem matchCommand_twice
    (ht : stageCommand s.badPatterns (fun s => s.clearErr.clearPayload) matchStage s = t) :
    stageCommand t.badPatterns (fun s => s.clearErr.clearPayload) matchStage t = t :=
  stageCommand_twice_of_clear (clear := fun s => s.clearErr.clearPayload) (s := s) badPatterns_readsInputs
    (clearPayload_sameInputs s) (matchStage_keeps _) matchStage_finish
    (matchStage_matchOutcome s.accept.clearErr.clearPayload).clear_again ht

theorem normalizeCommand_twice (hshape : s.shaped)
    (ht : stageCommand s.badCapture (fun s => s.clearErr.clearUnits) normalizeStage s = t) :
    stageCommand t.badCapture (fun s => s.clearErr.clearUnits) normalizeStage t = t := by
  have hkeeps := normalizeStage_keeps s.accept.clearErr.clearUnits
  refine stageCommand_twice (clear := fun s => s.clearErr.clearUnits) (s := s) badCapture_readsInputs
    (clearUnits_sameInputs s) hkeeps (fun hgood => ?_) ht
  have hagain := normalizeStage_twice (s := s.accept.clearErr.clearUnits)
    (clearUnits_shaped (s := s.accept.clearErr) hshape) (clearUnits_unitsEmpty s.accept.clearErr).1
    ((captureFits_congr (s := s) (by simp) (by simp)).mpr (captureFits_of_badCapture hgood))
  rw [clearUnits_again hkeeps, normalizeStage_finish, hagain, State.finish_finish]

theorem decodeCommand_twice (hshape : s.shaped)
    (ht : stageCommand s.badDecode State.clearPipeline decodeStage s = t) :
    stageCommand t.badDecode State.clearPipeline decodeStage t = t := by
  have hkeeps := decodeStage_keeps s.accept.clearPipeline
  refine stageCommand_twice (s := s) badDecode_readsInputs (clearPipeline_sameInputs s) hkeeps
    (fun hgood => ?_) ht
  obtain ⟨-, hfits⟩ := badDecode_eq_false hgood
  have hagain := decodeStage_twice (s := s.accept.clearPipeline)
    (clearPipeline_shaped (s := s.accept) hshape) (clearPipeline_unitsEmpty s.accept).1
    ((captureFits_congr (s := s) (by simp) (by simp)).mpr hfits)
  rw [clearPipeline_again hkeeps, hagain]

/-- Rule R71 for every row of the opcode table. -/
theorem exec_twice {i : Instr} (hshape : s.shaped) (he : exec i s = .next t) : exec i t = .next t := by
  cases i <;> replace he := Host.Outcome.next.inj he <;> refine congrArg Host.Outcome.next ?_
  case nop => rw [← he]; rfl
  case clear => exact clearAll_twice he
  case classify => rw [← he]; rfl
  case normalize => exact normalizeCommand_twice hshape he
  case matchPreamble => exact matchCommand_twice he
  case assembleDht => exact assembleCommand_twice (assembleRaw_outcome _ _ _) (assembleRaw_finish _ _ _) he
  case assembleMan => exact assembleCommand_twice (assemblePairs_outcome _) (assemblePairs_finish _) he
  case assembleDman => exact assembleCommand_twice (assemblePairs_outcome _) (assemblePairs_finish _) he
  case assemblePd => exact assembleCommand_twice assemblePdStage_outcome assemblePdStage_finish he
  case validateDht => exact validateCommand_twice validateDhtStage_outcome validateDhtStage_finish he
  case validateNone => exact validateCommand_twice validateNoneStage_outcome validateNoneStage_finish he
  case validateNec => exact validateCommand_twice validateNecStage_outcome validateNecStage_finish he
  case decode => exact decodeCommand_twice hshape he

end

/-- Settles O45: a command's second run starts from the registers that its clear left for the first, DONE
and UNIT apart; a second write stores what is there; and a read leaves the registers as they are. -/
theorem commandsAndWritesAreIdempotent : Obligations.CommandsAndWritesAreIdempotent := by
  refine ⟨fun _ _ _ hshape he => exec_twice hshape he, hostWrite_twice, fun s a h => ?reads⟩
  case reads =>
    have hword : hostRead { s with pending := [.read a], rdata := some (hostRead s a) } a = hostRead s a :=
      readPlace_hostSide ..
    exact ⟨_, _, step_read h, step_read rfl, by rw [hword]⟩

end Sys2Proof.Machine

/-! ## Command words and transaction values -/

namespace Sys2Proof.Machine

/-! ### The decoder as a correspondence of words and rows -/

theorem encode_of_decodeAssemble {c : Ctrl} {i : Instr} (h : decodeAssemble c = .instr i) :
    encode i = 5#32 := by
  unfold decodeAssemble at h
  split at h
  case h_2 => split at h <;> cases h <;> rfl
  all_goals cases h <;> rfl

theorem encode_of_decodeValidate {c : Ctrl} {i : Instr} (h : decodeValidate c = .instr i) :
    encode i = 6#32 := by
  unfold decodeValidate at h
  split at h <;> cases h <;> rfl

/-- ASSEMBLE and VALIDATE answer a row, or the refusal of rule R84 under the policy code 3. -/
theorem selectedRow_refusals (c : Ctrl) :
    (decodeAssemble c = .reservedPolicy ↔ c.extractLsb' 0 2 = 3#2) ∧
      (decodeValidate c = .reservedPolicy ↔ c.extractLsb' 0 2 = 3#2) ∧
      decodeAssemble c ≠ .illegalWord ∧ decodeValidate c ≠ .illegalWord := by
  revert c
  decide

/-- Opcodes 0x8 to 0xF, and every larger number, are no command. -/
theorem decodeOp_of_le {c : Ctrl} {op : Nat} (h : 8 ≤ op) : decodeOp c op = .illegalWord := by
  obtain ⟨k, rfl⟩ := Nat.exists_eq_add_of_le' h
  rfl

theorem decodeOp_eq_illegalWord_iff {c : Ctrl} {op : Nat} : decodeOp c op = .illegalWord ↔ 8 ≤ op := by
  refine ⟨fun h => ?_, decodeOp_of_le⟩
  obtain ⟨-, -, hassemble, hvalidate⟩ := selectedRow_refusals c
  by_contra hop
  unfold decodeOp at h
  split at h
  case h_6 => exact hassemble h
  case h_7 => exact hvalidate h
  case h_9 =>
    simp only [imp_false] at *
    omega
  all_goals cases h

theorem decodeOp_eq_reservedPolicy_iff {c : Ctrl} {op : Nat} :
    decodeOp c op = .reservedPolicy ↔ c.extractLsb' 0 2 = 3#2 ∧ (op = 5 ∨ op = 6) := by
  obtain ⟨hassemble, hvalidate, -⟩ := selectedRow_refusals c
  unfold decodeOp
  split
  case h_6 => simpa using hassemble
  case h_7 => simpa using hvalidate
  case h_9 => simp_all
  all_goals simp

theorem eq_encode_of_decodeOp {c : Ctrl} {op : Nat} {i : Instr} (h : decodeOp c op = .instr i) :
    op = (encode i).toNat := by
  unfold decodeOp at h
  split at h
  case h_6 => rw [encode_of_decodeAssemble h]; rfl
  case h_7 => rw [encode_of_decodeValidate h]; rfl
  case h_9 => cases h
  all_goals
    cases h
    rfl

theorem toNat_reserved_bits (w : Word) : (w.extractLsb' 4 28).toNat = w.toNat / 16 := by
  rw [BitVec.extractLsb'_toNat, Nat.shiftRight_eq_div_pow]
  omega

theorem toNat_op_bits (w : Word) : (w.extractLsb' 0 4).toNat = w.toNat % 16 := by
  rw [BitVec.extractLsb'_toNat, Nat.shiftRight_zero]

/-- The reserved bits of rule R83 are 0 in the numbers below 16. -/
theorem reserved_bits_zero_iff (w : Word) : w.extractLsb' 4 28 = 0#28 ↔ w.toNat < 16 := by
  rw [← BitVec.toNat_inj, toNat_reserved_bits, BitVec.toNat_ofNat]
  omega

/-- The test of the reserved bits and the opcode field ask only which number the word is: a reserved
bit that is 1 makes it 16 or more. -/
theorem decodeWord_eq_decodeOp (c : Ctrl) (w : Word) : decodeWord c w = decodeOp c w.toNat := by
  unfold decodeWord
  simp only [reserved_bits_zero_iff, toNat_op_bits]
  split
  next hlow => rw [Nat.mod_eq_of_lt hlow]
  next hhigh => rw [decodeOp_of_le (by omega)]

theorem decodeWord_encode {c : Ctrl} {i : Instr} (h : i.wellFormed c = true) :
    decodeWord c (encode i) = .instr i := by
  cases i
  case nop => exact Laws.Encodes.nop c h
  case clear => exact Laws.Encodes.clear c h
  case classify => exact Laws.Encodes.classify c h
  case normalize => exact Laws.Encodes.normalize c h
  case matchPreamble => exact Laws.Encodes.matchPreamble c h
  case assembleDht => exact Laws.Encodes.assembleDht c h
  case assembleMan => exact Laws.Encodes.assembleMan c h
  case assembleDman => exact Laws.Encodes.assembleDman c h
  case assemblePd => exact Laws.Encodes.assemblePd c h
  case validateDht => exact Laws.Encodes.validateDht c h
  case validateNone => exact Laws.Encodes.validateNone c h
  case validateNec => exact Laws.Encodes.validateNec c h
  case decode => exact Laws.Encodes.decode c h

/-- A word runs the rows it encodes that CTRL selects, and no other (rule R84). -/
theorem decodeWord_eq_instr_iff {c : Ctrl} {w : Word} {i : Instr} :
    decodeWord c w = .instr i ↔ w = encode i ∧ i.wellFormed c = true := by
  constructor
  · intro h
    have hsel := decodeWord_wellFormed h
    rw [decodeWord_eq_decodeOp] at h
    exact ⟨BitVec.eq_of_toNat_eq (eq_encode_of_decodeOp h), hsel⟩
  · rintro ⟨rfl, hsel⟩
    exact decodeWord_encode hsel

/-- Rule R83 as the word has it: a reserved bit that is 1, or an opcode of 0x8 to 0xF. -/
theorem decodeWord_eq_illegalWord_iff {c : Ctrl} {w : Word} :
    decodeWord c w = .illegalWord ↔ w.extractLsb' 4 28 ≠ 0#28 ∨ 8 ≤ (w.extractLsb' 0 4).toNat := by
  rw [decodeWord_eq_decodeOp, decodeOp_eq_illegalWord_iff, ne_eq, reserved_bits_zero_iff, toNat_op_bits]
  omega

theorem decodeWord_eq_reservedPolicy_iff {c : Ctrl} {w : Word} :
    decodeWord c w = .reservedPolicy ↔ c.extractLsb' 0 2 = 3#2 ∧ (w = 5#32 ∨ w = 6#32) := by
  rw [decodeWord_eq_decodeOp, decodeOp_eq_reservedPolicy_iff, ← BitVec.toNat_inj (y := 5#32),
    ← BitVec.toNat_inj (y := 6#32), BitVec.toNat_ofNat, BitVec.toNat_ofNat]

/-- Settles O1: the first thirteen words are the encodings of rows that CTRL selects; the last three are
the refusals of rules R84 and R83. -/
theorem writtenCommandWordsDecode : Obligations.WrittenCommandWordsDecode := by
  refine ⟨?nop, ?clear, ?classify, ?normalize, ?matchPreamble, ?assembleDht, ?assembleMan,
    ?assembleDman, ?assemblePd, ?validateDht, ?validateNone, ?validateNec, ?decode, ?reserved, ?op8, ?bit4⟩
  case reserved => exact decodeWord_eq_reservedPolicy_iff.mpr ⟨rfl, .inr rfl⟩
  case op8 => exact decodeWord_eq_illegalWord_iff.mpr (.inr (by decide))
  case bit4 => exact decodeWord_eq_illegalWord_iff.mpr (.inl (by decide))
  all_goals exact decodeWord_eq_instr_iff.mpr ⟨rfl, rfl⟩

/-! ### The transaction value (rule R80) -/

/-- The positions of the three fields of `we ++ addr ++ wdata`. -/
theorem transaction_fields (we : BitVec 1) (addr : BitVec 14) (data : BitVec 32) :
    (we ++ addr ++ data).extractLsb' 46 1 = we ∧ (we ++ addr ++ data).extractLsb' 32 14 = addr ∧
      (we ++ addr ++ data).extractLsb' 0 32 = data := by
  simp (disch := decide) only [BitVec.extractLsb'_append_eq_of_le, BitVec.extractLsb'_append_eq_of_add_le,
    Nat.reduceSub, BitVec.extractLsb'_eq_self, and_self]

/-- The three fields are all there is of a transaction value. -/
theorem transaction_of_fields (t : BitVec 47) :
    t.extractLsb' 46 1 ++ t.extractLsb' 32 14 ++ t.extractLsb' 0 32 = t := by
  rw [BitVec.extractLsb'_append_extractLsb'_eq_extractLsb' (by decide),
    BitVec.extractLsb'_append_extractLsb'_eq_extractLsb' (by decide), BitVec.extractLsb'_eq_self]

theorem decodeTransaction_of_write {t : BitVec 47} (h : t.extractLsb' 46 1 = 1#1) :
    decodeTransaction t = .write (t.extractLsb' 32 14) (t.extractLsb' 0 32) :=
  if_pos h

theorem decodeTransaction_of_read {t : BitVec 47} (h : t.extractLsb' 46 1 = 0#1) :
    decodeTransaction t = .read (t.extractLsb' 32 14) :=
  if_neg (by rw [h]; decide)

theorem decodeTransaction_write (addr : Addr) (data : Word) :
    decodeTransaction (1#1 ++ addr ++ data) = .write addr data := by
  obtain ⟨hwe, haddr, hdata⟩ := transaction_fields 1#1 addr data
  rw [decodeTransaction_of_write hwe, haddr, hdata]

theorem decodeTransaction_read (addr : Addr) (data : Word) :
    decodeTransaction (0#1 ++ addr ++ data) = .read addr := by
  obtain ⟨hwe, haddr, -⟩ := transaction_fields 0#1 addr data
  rw [decodeTransaction_of_read hwe, haddr]

theorem encodeTransaction_decodeTransaction {t : BitVec 47} (h : t.extractLsb' 46 1 = 1#1) :
    encodeTransaction (decodeTransaction t) = some t := by
  rw [decodeTransaction_of_write h, encodeTransaction, ← h, transaction_of_fields]

/-- The value of a write is the one value that decodes to it: no bit of it is free. -/
theorem decodeTransaction_eq_write_iff {t : BitVec 47} {addr : Addr} {data : Word} :
    decodeTransaction t = .write addr data ↔ encodeTransaction (.write addr data) = some t := by
  constructor
  · intro h
    rcases BitVec.eq_zero_or_eq_one (t.extractLsb' 46 1) with hread | hwrite
    · rw [decodeTransaction_of_read hread] at h
      cases h
    · rw [← h, encodeTransaction_decodeTransaction hwrite]
  · intro h
    cases h
    exact decodeTransaction_write addr data

/-- Settles O2: the value of a write is the only one that decodes to it, and a word decodes to exactly
the rows it encodes that CTRL selects. -/
theorem transactionsRunExactlyTheEncodedCommand :
    Obligations.TransactionsRunExactlyTheEncodedCommand := by
  intro ctrl t i
  simp only [decodeTransaction_eq_write_iff, decodeWord_eq_instr_iff]
  constructor
  · rintro ⟨w, ht, rfl, hsel⟩
    exact ⟨ht, hsel⟩
  · rintro ⟨ht, hsel⟩
    exact ⟨encode i, ht, rfl, hsel⟩

/-- Settles O3: the fields stand at their positions, and make up the whole value. -/
theorem transactionValuesRoundTrip : Obligations.TransactionValuesRoundTrip := by
  refine ⟨fun addr data => ?write, fun addr => ?read, fun _ => encodeTransaction_decodeTransaction,
    fun _ => decodeTransaction_of_read, decodeTransaction_write cmdAddr⟩
  case write =>
    obtain ⟨hwe, haddr, hdata⟩ := transaction_fields 1#1 addr data
    exact ⟨_, rfl, hwe, haddr, hdata, decodeTransaction_write addr data⟩
  case read =>
    obtain ⟨hwe, haddr, hdata⟩ := transaction_fields 0#1 addr 0#32
    exact ⟨_, rfl, hwe, haddr, hdata, decodeTransaction_read addr 0#32⟩

/-! ### A write to CMD -/

theorem step_command {s : State} {w : Word} {rest : List HostEvent}
    (h : s.pending = .write cmdAddr w :: rest) :
    step s = runCommand w { s with pending := rest, rdata := none } := by
  rw [step_of_pending h, perform, if_pos rfl]

theorem runCommand_of_instr {w : Word} {s : State} {i : Instr} (h : decodeWord s.cfg.ctrl w = .instr i) :
    runCommand w s = exec i s := by
  rw [runCommand, h]

theorem runCommand_of_illegalWord {w : Word} {s : State} (h : decodeWord s.cfg.ctrl w = .illegalWord) :
    runCommand w s = .next (s.refuse .illegalWord) := by
  rw [runCommand, h]

theorem runCommand_of_reservedPolicy {w : Word} {s : State}
    (h : decodeWord s.cfg.ctrl w = .reservedPolicy) : runCommand w s = .next (s.refuse .badConfig) := by
  rw [runCommand, h]

/-- Settles O5: the decoder's three answers are the three clauses. -/
theorem everyCommandWordRunsOrIsRefused : Obligations.EveryCommandWordRunsOrIsRefused := by
  intro s w rest hpending
  rw [step_command hpending]
  refine ⟨fun hillegal => ?illegal, fun hunselected => ?unselected, fun hlegal hselected => ?selected⟩
  case illegal => exact runCommand_of_illegalWord (decodeWord_eq_illegalWord_iff.mpr hillegal)
  case unselected => exact runCommand_of_reservedPolicy (decodeWord_eq_reservedPolicy_iff.mpr hunselected)
  case selected =>
    cases hdecode : decodeWord s.cfg.ctrl w with
    | instr i =>
      obtain ⟨hword, hsel⟩ := decodeWord_eq_instr_iff.mp hdecode
      exact ⟨i, hword, hsel, runCommand_of_instr hdecode⟩
    | illegalWord => exact absurd (decodeWord_eq_illegalWord_iff.mp hdecode) hlegal
    | reservedPolicy => exact absurd (decodeWord_eq_reservedPolicy_iff.mp hdecode) hselected

end Sys2Proof.Machine

/-! U1, the pulse classifier, and its command CLASSIFY (40_pulse_classifier.md). -/

namespace Sys2Proof.Machine

/-! ### Which window tests a class stands for (rule R101) -/

theorem classify_of_window_one {d base tol : Word} (h : window 1 d base tol) :
    classify d base tol = .single := by
  rw [classify_eq, widthClass, if_pos h]

theorem classify_of_window_two {d base tol : Word} (hone : ¬ window 1 d base tol)
    (htwo : window 2 d base tol) : classify d base tol = .double := by
  rw [classify_eq, widthClass, if_neg hone, if_pos htwo]

theorem classify_of_no_window {d base tol : Word} (hone : ¬ window 1 d base tol)
    (htwo : ¬ window 2 d base tol) : classify d base tol = .invalid := by
  rw [classify_eq, widthClass, if_neg hone, if_neg htwo]

/-- Settles O26, bound by bound: each bound decides the window tests that its class stands for. One above
`base + tol` the double window has begun or not, as rule R105 says, except at `base = tol = 0`, where it
ends at 0 already (assumption log entry 16). -/
theorem classificationAtTheWindowBounds : Obligations.ClassificationAtTheWindowBounds := by
  intro d base tol dn b t
  refine ⟨fun hd => ?singleHigh, fun hle hd => ?singleLow, fun hd hgap => ?aboveSingleInGap,
    fun hd hmeet hpos => ?aboveSingleInDouble, fun hd hzero => ?oneAtZero, fun hd hapart => ?doubleHigh,
    fun hd hapart => ?aboveDouble⟩
  case singleHigh => exact classify_of_window_one (by omega)
  case singleLow => exact classify_of_window_one (by omega)
  case aboveSingleInGap => exact classify_of_no_window (by omega) (by omega)
  case aboveSingleInDouble => exact classify_of_window_two (by omega) (by omega)
  case oneAtZero => exact classify_of_no_window (by omega) (by omega)
  case doubleHigh => exact classify_of_window_two (by omega) (by omega)
  case aboveDouble => exact classify_of_no_window (by omega) (by omega)

/-! ### The command -/

theorem exec_classify (s : State) :
    exec .classify s =
      .next { s.accept with rep.clsResult := classifyFlags s.inp.clsDur s.cfg.base s.cfg.tol } := rfl

theorem classifyFlags_eq (d base tol : Word) :
    classifyFlags d base tol =
      { cls := widthClass d base tol, in1 := decide (window 1 d base tol)
        in2 := decide (window 2 d base tol), in3 := decide (window 3 d base tol) } := by
  rw [classifyFlags, classify_eq, inWin_eq, inWin_eq, inWin_eq]
  rfl

/-- Settles O25: CLASSIFY is a row of every CTRL, and the value it gives CLS_RESULT is
`classifyFlags_eq`. -/
theorem classifyReportsTheThreeWindows : Obligations.ClassifyReportsTheThreeWindows := by
  refine ⟨fun _ => decodeWord_eq_instr_iff.mpr ⟨rfl, rfl⟩, fun s => ?_⟩
  rw [exec_classify, classifyFlags_eq]
  rfl

end Sys2Proof.Machine

/-! U2, the pulse normalizer, and its command NORMALIZE (41_pulse_normalizer.md). -/

namespace Sys2Proof.Machine

/-! ### One half -/

theorem toNat_half (d : Word) : (d / 2#32).toNat = d.toNat / 2 := BitVec.toNat_udiv

/-- A half emits nothing, itself as a Single, or two halves of itself as a Double (rules R122, R124). -/
theorem halfEmits_cases (s : State) (p : Nat × Half) :
    (s.halfEmits p = [] ∧ s.halfKept p = 0) ∨
    (s.halfClass p = .single ∧ s.halfEmits p = [{ level := s.halfLevel p, dur := s.halfDur p }] ∧
      s.halfKept p = (s.halfDur p).toNat) ∨
    (s.halfClass p = .double ∧
      s.halfEmits p = List.replicate 2 { level := s.halfLevel p, dur := s.halfDur p / 2#32 } ∧
      s.halfKept p = (s.halfDur p).toNat - (s.halfDur p).toNat % 2) := by
  by_cases hzero : s.halfDur p = 0#32
  · exact .inl ⟨if_pos hzero, if_pos (congrArg BitVec.toNat hzero)⟩
  · have hpos : (s.halfDur p).toNat ≠ 0 := fun h => hzero (BitVec.eq_of_toNat_eq h)
    simp only [State.halfEmits, State.halfKept, hzero, hpos, if_false]
    cases s.halfClass p with
    | single => exact .inr (.inl ⟨rfl, rfl, rfl⟩)
    | double => exact .inr (.inr ⟨rfl, rfl, rfl⟩)
    | invalid => exact .inl ⟨rfl, rfl⟩

/-! ### The walk of a whole capture -/

theorem symCount_congr {s t : State} (hi : t.inp = s.inp) : t.symCount = s.symCount := by
  rw [State.symCount, State.symCount, hi]

theorem captureFits_of_not_misconfigured {s : State} (h : ¬ s.misconfigured .normalize) : s.captureFits :=
  Nat.le_of_not_lt h

/-- An accepted capture has at most as many symbols as the largest raw buffer (rules R5 and R221). -/
theorem symCount_le {s : State} (hshape : s.shaped) (h : ¬ s.misconfigured .normalize) :
    s.symCount ≤ 1024 := by
  obtain ⟨-, -, hcap, -⟩ := (legal_iff _).mp hshape.1
  exact (captureFits_of_not_misconfigured h).trans hcap

/-- The unit pulses of a walk: the emissions of the halves it gets through (rules R122, R124). -/
def State.walkPulses (s : State) : List UnitPulse := s.walkedHalves.flatMap s.halfEmits

/-- The half a walk ends at, if it does not get through all of them (rule R127). -/
def State.failingHalf (s : State) : Option (Nat × Half) :=
  (capturedHalves s.symCount)[s.walkedHalves.length]?

theorem walkedHalves_eq (s : State) :
    s.walkedHalves = (halvesOf s.symCount).takeWhile fun p => !s.halfFails p := by
  rw [State.walkedHalves, capturedHalves_eq]

theorem failingHalf_eq (s : State) :
    s.failingHalf = ((halvesOf s.symCount).dropWhile fun p => !s.halfFails p).head? := by
  rw [State.failingHalf, walkedHalves_eq, capturedHalves_eq]
  generalize halvesOf s.symCount = hs
  have hsplit := List.takeWhile_append_dropWhile (p := fun p => !s.halfFails p) (l := hs)
  calc hs[(hs.takeWhile fun p => !s.halfFails p).length]?
      = ((hs.takeWhile fun p => !s.halfFails p) ++ hs.dropWhile fun p => !s.halfFails p)[
          (hs.takeWhile fun p => !s.halfFails p).length]? := by rw [hsplit]
    _ = (hs.dropWhile fun p => !s.halfFails p).head? := by
          rw [List.getElem?_append_right le_rfl, Nat.sub_self, List.head?_eq_getElem?]

/-- A walk in which no half fails gets through all of them. -/
theorem walkedHalves_of_failingHalf {s : State} (h : s.failingHalf = none) :
    s.walkedHalves = capturedHalves s.symCount := by
  rw [failingHalf_eq, List.head?_eq_none_iff, List.dropWhile_eq_nil_iff] at h
  rw [walkedHalves_eq, capturedHalves_eq, List.takeWhile_eq_self_iff.mpr h]

theorem walkedHalves_length_le (s : State) : s.walkedHalves.length ≤ 2 * s.symCount := by
  rw [walkedHalves_eq, ← halvesOf_length]
  exact takeWhile_length_le _ _

/-- What a walk does is decided by the configuration and the inputs. -/
theorem walk_congr {s t : State} (hc : t.cfg = s.cfg) (hi : t.inp = s.inp) :
    t.walkedHalves = s.walkedHalves ∧ t.failingHalf = s.failingHalf ∧ t.walkPulses = s.walkPulses := by
  have hcount := symCount_congr hi
  have hwalk : t.walkedHalves = s.walkedHalves := by
    rw [walkedHalves_eq, walkedHalves_eq, hcount, halfFails_congr hc hi]
  refine ⟨hwalk, ?failing, ?pulses⟩
  case failing => rw [State.failingHalf, State.failingHalf, hwalk, hcount]
  case pulses => rw [State.walkPulses, State.walkPulses, hwalk, halfEmits_congr hc hi]

/-- Listing L121's `Normalize()` stores what the halves before the failing one contribute, and raises
InvalidPulseWidth at that one. -/
theorem normalizeStage_eq {s : State} (hb : s.unitCount + 4 * s.symCount < 2 ^ 32) :
    normalizeStage s =
      s.failingHalf.elim (s.afterHalves s.walkedHalves) fun p =>
        (s.afterHalves s.walkedHalves).raise (invalidWidthAt p.1 p.2) := by
  have hlen := halvesOf_length s.symCount
  have heq := normalizeHalves_eq (halvesOf s.symCount) s (by omega)
  rw [normalizeStage, heq, failingHalf_eq, walkedHalves_eq]
  cases hd : (halvesOf s.symCount).dropWhile fun p => !s.halfFails p with
  | nil => rw [List.takeWhile_eq_self_iff.mpr (List.dropWhile_eq_nil_iff.mp hd)]; rfl
  | cons p rest => rfl

/-! ### The state that NORMALIZE leaves -/

/-- The error that a walk ending at `failure` records: InvalidPulseWidth of U2, or none. -/
def Status.afterWalk : Option (Nat × Half) → Status
  | none => .doneOnly
  | some p => .doneWith (invalidWidthAt p.1 p.2)

/-- `s` after NORMALIZE (rules R121 and R127). -/
def State.normalized (s : State) : State :=
  { s with
    work :=
      { unitCount := BitVec.ofNat 32 s.walkPulses.length
        payStart := 0#32, payCount := 0#32, payPad := Pad.zero
        units := s.walkPulses ++ s.work.units.drop s.walkPulses.length }
    out := s.out.blank
    rep :=
      { status := Status.afterWalk s.failingHalf
        errIndex := s.failingHalf.elim (-1#32) fun p => BitVec.ofNat 32 p.1
        bitErrCount := 0#32, bitErrFirst := -1#32
        skipCount := BitVec.ofNat 32 (s.walkedHalves.countP s.halfSkips)
        clsResult := s.rep.clsResult } }

theorem exec_normalize {s : State} (h : ¬ s.misconfigured .normalize) :
    exec .normalize s = .next (normalizeStage s.accept.clearErr.clearUnits).finish := by
  have hgood : s.badCapture = false := Bool.eq_false_iff.mpr fun hbad => h ((badCapture_iff s).mp hbad)
  change Host.Outcome.next (stageCommand s.badCapture _ _ s) = _
  rw [hgood, stageCommand_good]

/-- What the walked halves contribute, stored where UNIT_COUNT and SKIP_COUNT are cleared. -/
theorem afterHalves_of_unitsEmpty {s : State} (hempty : s.unitsEmpty)
    (hfit : s.walkPulses.length ≤ s.work.units.length) :
    s.afterHalves s.walkedHalves =
      { s with
        work.units := s.walkPulses ++ s.work.units.drop s.walkPulses.length
        work.unitCount := BitVec.ofNat 32 s.walkPulses.length
        rep.skipCount := BitVec.ofNat 32 (s.walkedHalves.countP s.halfSkips) } := by
  obtain ⟨hunits, hskips, -⟩ := hempty
  have hstore : storeFrom s.work.units 0 s.walkPulses =
      s.walkPulses ++ s.work.units.drop s.walkPulses.length := by
    simpa using storeFrom_eq s.work.units 0 s.walkPulses (by omega)
  rw [← hstore]
  simp [State.afterHalves, State.walkPulses, State.unitCount, hunits, hskips]

theorem exec_normalize_eq {s : State} (hshape : s.shaped) (h : ¬ s.misconfigured .normalize) :
    exec .normalize s = .next s.normalized := by
  rw [exec_normalize h]
  obtain ⟨-, hcfg, hinp, -⟩ := clearUnits_sameInputs s
  obtain ⟨hwalk, hfail, hpulses⟩ := walk_congr hcfg hinp
  have hskips := halfSkips_congr hcfg hinp
  have hsyms := symCount_congr hinp
  have hcount := symCount_le hshape h
  have hempty := clearUnits_unitsEmpty s.accept.clearErr
  have hzero : s.accept.clearErr.clearUnits.unitCount = 0 := congrArg BitVec.toNat hempty.1
  have hroom : s.walkPulses.length ≤ s.work.units.length :=
    emits_fit hshape (captureFits_of_not_misconfigured h) (walkedHalves_length_le s)
  rw [normalizeStage_eq (by omega), afterHalves_of_unitsEmpty hempty (by rw [hpulses]; exact hroom), hwalk,
    hfail, hpulses, hskips, clearUnits_eq, State.normalized]
  cases s.failingHalf <;> rfl

theorem eq_normalized {s t : State} (hshape : s.shaped) (h : ¬ s.misconfigured .normalize)
    (hexec : exec .normalize s = .next t) : t = s.normalized :=
  Host.Outcome.next.inj (hexec.symm.trans (exec_normalize_eq hshape h))

/-- Settles O27: `exec_normalize_eq`, with the bound of rule R126 on the emissions. -/
theorem normalizeWritesTheWalkedHalves : Obligations.NormalizeWritesTheWalkedHalves := by
  intro s hshape hgood pulses failure
  refine ⟨walk_emits_le s, (exec_normalize_eq hshape hgood).trans ?_⟩
  rw [State.normalized, show s.failingHalf = failure from rfl]
  cases failure <;> rfl

/-! ### The unit pulses that NORMALIZE leaves -/

theorem walkPulses_length_lt {s : State} (hshape : s.shaped) (h : ¬ s.misconfigured .normalize) :
    s.walkPulses.length < 2 ^ 32 := by
  have hsyms := symCount_le hshape h
  have hbound : s.walkPulses.length ≤ 4 * s.symCount := walk_emits_le s
  omega

/-- The valid entries of UNIT are the pulses of the walk. -/
theorem normalized_units {s : State} (hshape : s.shaped) (h : ¬ s.misconfigured .normalize) :
    (List.range s.normalized.unitCount).map s.normalized.unitAt = s.walkPulses := by
  have hcount : s.normalized.unitCount = s.walkPulses.length :=
    Nat.mod_eq_of_lt (walkPulses_length_lt hshape h)
  rw [hcount]
  refine List.ext_getElem (by simp) fun j _ hj => ?_
  simp [State.unitAt, State.normalized, List.getElem?_append_left hj, List.getElem?_eq_getElem hj]

theorem window_one_of_single {d base tol : Word} (h : widthClass d base tol = .single) :
    window 1 d base tol := by
  by_contra hone
  rw [widthClass, if_neg hone] at h
  split at h <;> contradiction

theorem window_two_of_double {d base tol : Word} (h : widthClass d base tol = .double) :
    window 2 d base tol := by
  by_contra htwo
  rw [widthClass, if_neg htwo] at h
  split at h <;> contradiction

/-- Half of a duration in the double window lies in the single window (rule R125). -/
theorem window_one_of_halved {d base tol : Word} (h : window 2 d base tol) :
    window 1 (d / 2#32) base tol := by
  obtain ⟨hlow, hhigh⟩ := h
  rw [window, toNat_half]
  omega

theorem halfEmits_window (s : State) (p : Nat × Half) :
    ∀ u ∈ s.halfEmits p, window 1 u.dur s.cfg.base s.cfg.tol := by
  intro u hu
  obtain ⟨hemits, -⟩ | ⟨hclass, hemits, -⟩ | ⟨hclass, hemits, -⟩ := halfEmits_cases s p
  · simp [hemits] at hu
  · rw [hemits, List.mem_singleton] at hu
    subst hu
    exact window_one_of_single hclass
  · rw [hemits] at hu
    obtain rfl := List.eq_of_mem_replicate hu
    exact window_one_of_halved (window_two_of_double hclass)

/-- Settles O28: every valid entry of UNIT is the emission of some half. -/
theorem emittedPulsesLieInTheSingleWindow : Obligations.EmittedPulsesLieInTheSingleWindow := by
  intro s t hshape hgood hexec j hj
  obtain rfl := eq_normalized hshape hgood hexec
  have hmem : s.normalized.unitAt j ∈ s.walkPulses := by
    rw [← normalized_units hshape hgood]
    exact List.mem_map_of_mem (List.mem_range.mpr hj)
  obtain ⟨p, -, hp⟩ := List.mem_flatMap.mp hmem
  exact halfEmits_window s p _ hp

/-! ### The sum of their durations -/

/-- What a half emits lasts as long as the part of it that is kept (rule R124). -/
theorem halfEmits_sum (s : State) (p : Nat × Half) :
    ((s.halfEmits p).map fun u => u.dur.toNat).sum = s.halfKept p := by
  obtain ⟨hemits, hkept⟩ | ⟨-, hemits, hkept⟩ | ⟨-, hemits, hkept⟩ := halfEmits_cases s p
  all_goals rw [hemits, hkept]
  · rfl
  · rfl
  · rw [List.map_replicate, List.sum_replicate_nat, toNat_half]
    omega

theorem sum_flatMap_halfEmits (s : State) (hs : List (Nat × Half)) :
    ((hs.flatMap s.halfEmits).map fun u => u.dur.toNat).sum = (hs.map s.halfKept).sum := by
  induction hs with
  | nil => rfl
  | cons p hs ih =>
    rw [List.flatMap_cons, List.map_append, List.sum_append, halfEmits_sum, ih, List.map_cons, List.sum_cons]

theorem normalized_noError_iff (s : State) : s.normalized.noError ↔ s.failingHalf = none := by
  rw [State.noError, State.normalized]
  cases s.failingHalf <;> simp [Status.afterWalk, Status.doneOnly, Status.doneWith, Status.zero, invalidWidthAt]

/-- Settles O29: without an error the walk gets through all halves, and each emits what it keeps. -/
theorem splittingDropsOnlyTheRemainder : Obligations.SplittingDropsOnlyTheRemainder := by
  intro s t hshape hgood hexec hok
  obtain rfl := eq_normalized hshape hgood hexec
  have hall := walkedHalves_of_failingHalf ((normalized_noError_iff s).mp hok)
  calc ((List.range s.normalized.unitCount).map fun j => (s.normalized.unitAt j).dur.toNat).sum
      = (((List.range s.normalized.unitCount).map s.normalized.unitAt).map fun u => u.dur.toNat).sum := by
        rw [List.map_map]; rfl
    _ = ((s.walkedHalves.flatMap s.halfEmits).map fun u => u.dur.toNat).sum := by
        rw [normalized_units hshape hgood]; rfl
    _ = ((capturedHalves s.symCount).map s.halfKept).sum := by rw [sum_flatMap_halfEmits, hall]

/-! ### Lenience -/

theorem failingHalf_of_lenient {s : State} (h : s.lenient = true) : s.failingHalf = none := by
  rw [failingHalf_eq, List.head?_eq_none_iff, List.dropWhile_eq_nil_iff]
  simp [State.halfFails, h]

theorem halfSkips_of_lenient {s : State} (h : s.lenient = true) :
    s.halfSkips = fun p => s.halfDur p != 0#32 && s.halfClass p == .invalid := by
  funext p
  rw [State.halfSkips, h, Bool.and_true]

theorem normalized_skipCount {s : State} (hshape : s.shaped) (h : ¬ s.misconfigured .normalize) :
    s.normalized.rep.skipCount.toNat = s.walkedHalves.countP s.halfSkips := by
  have hsyms := symCount_le hshape h
  have hlen := walkedHalves_length_le s
  have hcount := List.countP_le_length (p := s.halfSkips) (l := s.walkedHalves)
  exact Nat.mod_eq_of_lt (by omega)

/-- Settles O30: with LENIENT = 1 no half fails, and the skipped halves are the Invalid ones. -/
theorem lenientNormalizeNeverFails : Obligations.LenientNormalizeNeverFails := by
  intro s hshape hgood hlenient
  have hnone := failingHalf_of_lenient hlenient
  refine ⟨s.normalized, exec_normalize_eq hshape hgood, (normalized_noError_iff s).mpr hnone, ?errIndex,
    ?skips⟩
  case errIndex => rw [State.normalized, hnone]; rfl
  case skips =>
    rw [normalized_skipCount hshape hgood, walkedHalves_of_failingHalf hnone, halfSkips_of_lenient hlenient]

end Sys2Proof.Machine

/-! U3, the preamble matcher, and its command MATCH (42_preamble_matcher.md). -/

namespace Sys2Proof.Machine

/-! ### The first mismatch (rules R140 to R142) -/

theorem startMismatch_eq_some {s : State} {i : Nat} :
    startMismatch s = some i ↔ i < s.startLen ∧ ¬ s.startOk i ∧ ∀ i', i' < i → s.startOk i' := by
  rw [startMismatch, List.find?_range_eq_some]
  simp [← levelOK_iff, and_left_comm]

/-- A mismatch of the stop pattern is reported at the pulse that its entry is matched against. -/
theorem stopMismatch_eq_some {s : State} {j : Nat} :
    stopMismatch s = some j ↔
      ∃ k, (k < s.stopLen ∧ ¬ s.stopOk k ∧ ∀ k', k' < k → s.stopOk k') ∧ s.stopPulse k = j := by
  simp only [stopMismatch_eq, Option.map_eq_some_iff, List.find?_range_eq_some]
  simp [← levelOK_iff, and_left_comm]

/-- The unit index that MATCH fails at, if it fails: UNIT_COUNT when the patterns do not fit, else the
first mismatch, the start pattern before the stop pattern. -/
def State.mismatch (s : State) : Option Nat :=
  if s.startLen + s.stopLen ≤ s.unitCount then (startMismatch s).or (stopMismatch s) else some s.unitCount

theorem matchStage_eq (s : State) :
    matchStage s = s.mismatch.elim s.writePayload fun j => s.raise (mismatchAt j) := by
  unfold matchStage State.mismatch
  by_cases hfits : s.startLen + s.stopLen ≤ s.unitCount
  · rw [if_neg (by omega), if_pos hfits]
    cases startMismatch s with
    | some i => rfl
    | none => cases stopMismatch s <;> rfl
  · rw [if_pos (by omega), if_neg hfits]
    rfl

theorem mismatch_of_not_fits {s : State} (h : ¬ s.startLen + s.stopLen ≤ s.unitCount) :
    s.mismatch = some s.unitCount := if_neg h

section
variable {s : State} (hfits : s.startLen + s.stopLen ≤ s.unitCount)
include hfits

theorem mismatch_of_start {i : Nat} (hi : i < s.startLen) (hbad : ¬ s.startOk i)
    (hfirst : ∀ i', i' < i → s.startOk i') : s.mismatch = some i := by
  rw [State.mismatch, if_pos hfits, startMismatch_eq_some.mpr ⟨hi, hbad, hfirst⟩, Option.some_or]

theorem mismatch_of_start_ok (hstart : ∀ i, i < s.startLen → s.startOk i) :
    s.mismatch = stopMismatch s := by
  rw [State.mismatch, if_pos hfits, (startMismatch_eq_none s).mpr hstart, Option.none_or]

end

/-! ### The state that MATCH leaves -/

/-- `s` after a MATCH that failed at unit pulse `j` (rule R142). -/
def State.mismatchedAt (s : State) (j : Nat) : State :=
  { s with
    work := { s.work with payStart := 0#32, payCount := 0#32, payPad := Pad.zero }
    out := s.out.blank
    rep :=
      { status := .doneWith (mismatchAt j), errIndex := BitVec.ofNat 32 j
        bitErrCount := 0#32, bitErrFirst := -1#32
        skipCount := s.rep.skipCount, clsResult := s.rep.clsResult } }

/-- The payload is padded: there is no stop pattern, and the start pattern leaves an odd rest
(rule R143). -/
abbrev State.oddRest (s : State) : Prop :=
  s.stopLen = 0 ∧ (s.unitCount - s.startLen - s.stopLen) % 2 = 1

/-- `s` after a MATCH that succeeded (rules R142 and R143). -/
def State.matched (s : State) : State :=
  let count := s.unitCount - s.startLen - s.stopLen
  { s with
    work :=
      { s.work with
        payStart := s.cfg.startLen
        payCount := BitVec.ofNat 32 (if s.oddRest then count + 1 else count)
        payPad :=
          if s.oddRest then { pad := true, level := (s.unitAt (s.unitCount - 1)).level.complement }
          else Pad.zero }
    out := s.out.blank
    rep :=
      { status := .doneOnly, errIndex := -1#32, bitErrCount := 0#32, bitErrFirst := -1#32
        skipCount := s.rep.skipCount, clsResult := s.rep.clsResult } }

theorem finish_raise_mismatchAt (s : State) (j : Nat) :
    (s.accept.clearErr.clearPayload.raise (mismatchAt j)).finish = s.mismatchedAt j := by
  rw [clearPayload_eq]
  rfl

theorem finish_writePayload (s : State) :
    s.accept.clearErr.clearPayload.writePayload.finish = s.matched := by
  rw [writePayload_eq, clearPayload_eq]
  rfl

/-- The clear of MATCH leaves the patterns and the unit pulses, so it leaves the mismatch. -/
theorem mismatch_clearPayload (s : State) : s.accept.clearErr.clearPayload.mismatch = s.mismatch := rfl

theorem exec_matchPreamble {s : State} (h : ¬ s.misconfigured .matchPreamble) :
    exec .matchPreamble s = .next (matchStage s.accept.clearErr.clearPayload).finish := by
  have hgood : s.badPatterns = false := Bool.eq_false_iff.mpr fun hbad => h ((badPatterns_iff s).mp hbad)
  change Host.Outcome.next (stageCommand s.badPatterns _ _ s) = _
  rw [hgood, stageCommand_good]

theorem exec_matchPreamble_eq {s : State} (h : ¬ s.misconfigured .matchPreamble) :
    exec .matchPreamble s = .next (s.mismatch.elim s.matched s.mismatchedAt) := by
  rw [exec_matchPreamble h, matchStage_eq, mismatch_clearPayload]
  cases s.mismatch with
  | none => exact congrArg _ (finish_writePayload s)
  | some j => exact congrArg _ (finish_raise_mismatchAt s j)

/-- Settles O31: each clause names the mismatch that MATCH ends at. -/
theorem matchReportsTheFirstMismatch : Obligations.MatchReportsTheFirstMismatch := by
  intro s hgood failed fits
  have hfail : ∀ j, s.mismatch = some j → exec .matchPreamble s = .next (failed j) := by
    intro j hj
    rw [exec_matchPreamble_eq hgood, hj]
    rfl
  refine ⟨fun hshort => ?tooShort, fun i hfits hi hbad hfirst => ?start,
    fun k hfits hstart hk hbad hfirst => ?stop⟩
  case tooShort => exact hfail _ (mismatch_of_not_fits hshort)
  case start => exact hfail _ (mismatch_of_start hfits hi hbad hfirst)
  case stop =>
    exact hfail _ ((mismatch_of_start_ok hfits hstart).trans
      (stopMismatch_eq_some.mpr ⟨k, ⟨hk, hbad, hfirst⟩, rfl⟩))

/-! ### A match that succeeds -/

theorem complement_eq (l : Level) : l.complement = if l = .low then .high else .low := by
  cases l <;> rfl

/-- Settles O32: no entry mismatches, and the window is that of `State.matched`. -/
theorem matchWritesThePayloadWindow : Obligations.MatchWritesThePayloadWindow := by
  intro s hgood hfits hstart hstop count padded
  have hnone : s.mismatch = none :=
    (mismatch_of_start_ok hfits hstart).trans ((stopMismatch_eq_none s).mpr hstop)
  have hpadded : (padded = true) = s.oddRest := decide_eq_true_eq
  rw [exec_matchPreamble_eq hgood, hnone]
  simp only [Option.elim_none, State.matched, complement_eq, hpadded, count]

end Sys2Proof.Machine

/-! U4, the bit assembler, and its command ASSEMBLE (43_bit_assembler.md). -/

namespace Sys2Proof.Machine

/-! ### The payload pulses (rule R165) -/

/-- Settles O37: below PAY_COUNT, the index is the last one exactly when its successor is PAY_COUNT. -/
theorem payloadLevelsComeFromTheWindow : Obligations.PayloadLevelsComeFromTheWindow := by
  intro s j hj
  have hlast : j + 1 = s.payCount ↔ j = s.payCount - 1 := by omega
  simp only [State.payLevel, hlast]

/-! ### What one data symbol or pulse pair comes to (rules R164 and R167 to R171) -/

theorem within_iff (lo hi : Nat) (d : Word) : within lo hi d = true ↔ lo ≤ d.toNat ∧ d.toNat ≤ hi := by
  rw [within, Bool.and_eq_true, decide_eq_true_eq, decide_eq_true_eq]

/-- Neither test passes exactly when the symbol is logged, and only the first gives a 1. -/
theorem outcome_one_first (one zero : Prop) [Decidable one] [Decidable zero] :
    (if one then { bit := true, logged := false }
      else if zero then { bit := false, logged := false } else bitError : BitOutcome) =
      { bit := decide one, logged := decide (¬ one ∧ ¬ zero) } := by
  by_cases hone : one
  · simp [hone]
  · by_cases hzero : zero <;> simp [hone, hzero, bitError]

/-- The base window is tested first, so a second duration in both windows stands for 0 (rule R170). -/
theorem outcome_zero_first (ok base triple : Prop) [Decidable ok] [Decidable base] [Decidable triple] :
    (if ok ∧ base then { bit := false, logged := false }
      else if ok ∧ triple then { bit := true, logged := false } else bitError : BitOutcome) =
      { bit := decide (ok ∧ ¬ base ∧ triple)
        logged := decide (¬ (ok ∧ ¬ base ∧ triple) ∧ ¬ (ok ∧ base)) } := by
  by_cases hbase : base
  · by_cases hok : ok <;> simp [hok, hbase, bitError]
  · simpa [hbase] using outcome_one_first (ok ∧ triple) False

theorem dhtOutcome_eq (y : RawSymbol) :
    dhtOutcome y = { bit := decide y.dhtOne, logged := decide (¬ y.dhtOne ∧ ¬ y.dhtZero) } := by
  simp only [dhtOutcome, Bool.and_eq_true, beq_iff_eq, within_iff, and_assoc (a := _ ≤ _ ∧ _)]
  exact outcome_one_first y.dhtOne y.dhtZero

theorem pulseDistanceOutcome_eq (base tol : Word) (y : RawSymbol) :
    pulseDistanceOutcome base tol y =
      { bit := decide (y.distanceOne base tol)
        logged := decide (¬ y.distanceOne base tol ∧ ¬ y.distanceZero base tol) } := by
  simp only [pulseDistanceOutcome, Bool.and_eq_true, beq_iff_eq, inWin_iff, multipleFactor]
  simpa only [RawSymbol.distanceOne, RawSymbol.distanceZero, and_assoc] using
    outcome_zero_first (window 1 y.dur0 base tol ∧ y.level1 = .high)
      (window 1 y.dur1 base tol) (window 3 y.dur1 base tol)

theorem manchesterOutcome_eq (a b : Level) :
    manchesterOutcome a b = { bit := decide (a = .low ∧ b = .high), logged := decide (a = b) } := by
  cases a <;> cases b <;> rfl

theorem differentialOutcome_eq (a b : Level) :
    differentialOutcome a b = { bit := decide (¬ (a = .low ∧ b = .high)), logged := false } := by
  cases a <;> cases b <;> rfl

/-! ### The bits and the bit error log of a whole frame (rules R162 and R163) -/

theorem findIdx?_map_range {α : Type} (f : Nat → α) (p : α → Bool) (n : Nat) :
    ((List.range n).map f).findIdx? p = (List.range n).find? fun k => p (f k) := by
  ext i
  simp [List.findIdx?_eq_some_iff_getElem, List.find?_range_eq_some]

/-- A cleared frame has no bit set. -/
theorem bitOf_blank (order : BitOrder) (o : Output) (k : Nat) : bitOf order o.blank.frame k = false := by
  have hbyte : o.blank.frame.getD (k / 8) 0#8 = 0#8 := by
    simp only [Output.blank, List.getD_eq_getElem?_getD, List.getElem?_replicate]
    split <;> rfl
  rw [bitOf, hbyte, BitVec.getLsbD_zero]

/-- The bits of `n` outcomes on a cleared frame that has room for them, and 0 after them. -/
theorem bitOf_packBits_blank (order : BitOrder) (f : Nat → BitOutcome) {n : Nat} {o : Output}
    (hroom : n ≤ 8 * o.frame.length) (k : Nat) :
    bitOf order (packBits order ((List.range n).map f) 0 o.blank.frame) k =
      if k < n then (f k).bit else false := by
  rw [bitOf_packBits _ _ _ _ _ (by simpa [Output.blank] using hroom), bitOf_blank]
  simp

/-- The log of `n` outcomes, from an empty one. -/
theorem logOf_map_range (f : Nat → BitOutcome) {n : Nat} (hword : n < 2 ^ 32) :
    logOf ((List.range n).map f) 0 (0#32, -1#32) =
      (BitVec.ofNat 32 ((List.range n).countP fun k => (f k).logged),
        ((List.range n).find? fun k => (f k).logged).elim (-1#32) fun k => BitVec.ofNat 32 k) := by
  rw [logOf_empty _ _ (by simpa using hword), findIdx?_map_range, List.countP_map]
  simp only [Nat.zero_add, Function.comp_def]

/-- From a cleared frame and log, an assembler leaves the bits of its outcomes in their order and the log
of those that are errors. -/
theorem assembles_of_outcomes {s : State} (order : BitOrder) {n : Nat} {f : Nat → BitOutcome}
    {bit noisy : Nat → Bool} (hf : ∀ k, f k = { bit := bit k, logged := noisy k })
    (hroom : n ≤ 8 * s.out.frame.length) (hword : n < 2 ^ 32) :
    s.assembles (s.accept.clearErr.clearFrame.assembled order ((List.range n).map f)).finish order n
      bit noisy := by
  obtain rfl : f = fun k => { bit := bit k, logged := noisy k } := funext hf
  have hbits := bitOf_packBits_blank order (fun k => { bit := bit k, logged := noisy k }) hroom
  have hcount : (List.range n).countP noisy < 2 ^ 32 :=
    (List.countP_le_length.trans_eq List.length_range).trans_lt hword
  rw [clearFrame_eq, State.assembled, placeBits_eq, logOf_map_range _ hword]
  refine ⟨?count, ?length, ?bits, ?rest, ?errors, rfl, rfl, rfl, rfl, rfl, rfl, rfl, rfl, ?inputs⟩
  case count => simpa [State.bitCount] using hword
  case length => simp [Output.blank]
  case bits => exact fun k hk => (frameBit_eq ..).trans ((hbits k).trans (if_pos hk))
  case rest => exact fun k hk => (frameBit_eq ..).trans ((hbits k).trans (if_neg (Nat.not_lt.mpr hk)))
  case errors => exact (BitVec.toNat_ofNat ..).trans (Nat.mod_eq_of_lt hcount)
  case inputs => exact ⟨rfl, rfl, rfl, rfl, rfl, rfl⟩

/-! ### The stages: too short, or the bits (rules R161 and R166) -/

theorem assembleRaw_of_short {order : BitOrder} {n : Nat} {f : RawSymbol → BitOutcome} {s : State}
    (h : s.symCount < s.rawSkipHead + n) :
    assembleRaw order n f s = s.raise (assemblerError s.inp.symCount) := if_pos h

theorem assembleRaw_of_long {order : BitOrder} {n : Nat} {f : RawSymbol → BitOutcome} {s : State}
    (h : s.rawSkipHead + n ≤ s.symCount) :
    assembleRaw order n f s =
      s.assembled order ((List.range n).map fun k => f (s.rawAt (s.rawSkipHead + k))) :=
  if_neg (Nat.not_lt.mpr h)

section
variable {f : Level → Level → BitOutcome} {s : State}

theorem assemblePairs_of_odd (h : s.payCount % 2 = 1) :
    assemblePairs f s = s.raise (assemblerError (s.work.payStart + s.work.payCount - 1#32)) := if_pos h

theorem assemblePairs_of_wrong_count (heven : s.payCount % 2 = 0) (hcheck : s.numDataBits ≠ 0)
    (hcount : s.payCount / 2 ≠ s.numDataBits) :
    assemblePairs f s = s.raise (assemblerError (-1#32)) := by
  simp only [assemblePairs]
  rw [if_neg (by omega), if_pos ⟨hcheck, hcount⟩]

theorem assemblePairs_of_count (heven : s.payCount % 2 = 0)
    (hcount : s.numDataBits = 0 ∨ s.payCount / 2 = s.numDataBits) :
    assemblePairs f s =
      s.assembled .msb
        ((List.range (s.payCount / 2)).map fun k => f (s.payLevel (2 * k)) (s.payLevel (2 * k + 1))) := by
  simp only [assemblePairs]
  rw [if_neg (by omega), if_neg (by omega)]

end

/-! ### The command -/

theorem finish_raise_assemblerError (s : State) (x : Word) :
    (s.accept.clearErr.clearFrame.raise (assemblerError x)).finish = s.assemblyFailed x := by
  rw [clearFrame_eq]
  rfl

/-- A row of ASSEMBLE that is not refused runs its stage between the clears and DONE. -/
theorem exec_assemble {i : Instr} {stage : State → State} {s : State}
    (hrow : exec i s = .next (stageCommand s.badAssemble (fun s => s.clearErr.clearFrame) stage s))
    (hgood : s.badAssemble = false) : exec i s = .next (stage s.accept.clearErr.clearFrame).finish := by
  rw [hrow, hgood, stageCommand_good]

/-- A row that decodes `n` raw symbols: the bits, or IncompleteFrame at SYM_COUNT (rule R161). -/
theorem exec_assembleRaw {i : Instr} {order : BitOrder} {n : Nat} {f : RawSymbol → BitOutcome}
    {bit noisy : RawSymbol → Bool} {s : State}
    (hexec : exec i s = .next (assembleRaw order n f s.accept.clearErr.clearFrame).finish)
    (hf : ∀ y, f y = { bit := bit y, logged := noisy y })
    (hshape : s.shaped) (hcap : s.rawSkipHead + n ≤ s.symCount → n ≤ s.params.rawCap) :
    (s.rawSkipHead + n ≤ s.symCount →
      ∃ t, exec i s = .next t ∧
        s.assembles t order n (fun k => bit (s.rawAt (s.rawSkipHead + k)))
          (fun k => noisy (s.rawAt (s.rawSkipHead + k)))) ∧
    (s.symCount < s.rawSkipHead + n → exec i s = .next (s.assemblyFailed s.inp.symCount)) := by
  obtain ⟨hlegal, -, -, -, -, hframe⟩ := hshape
  obtain ⟨hfour, -, hmax, -⟩ := (legal_iff _).mp hlegal
  rw [hexec]
  refine ⟨fun hlong => ?bits, fun hshort => ?tooShort⟩
  case bits =>
    have hfit := hcap hlong
    have hroom : n ≤ 8 * s.out.frame.length := by rw [hframe, Params.frameCap]; omega
    rw [assembleRaw_of_long (s := s.accept.clearErr.clearFrame) hlong]
    exact ⟨_, rfl, assembles_of_outcomes order (fun _ => hf _) hroom (by omega)⟩
  case tooShort =>
    rw [assembleRaw_of_short (s := s.accept.clearErr.clearFrame) hshort]
    exact congrArg _ (finish_raise_assemblerError s _)

/-- A row that decodes pulse pairs: the bits, or one of the two IncompleteFrame of rule R166. -/
theorem exec_assemblePairs {i : Instr} {f : Level → Level → BitOutcome} {bit noisy : Level → Level → Bool}
    {s : State} (hexec : exec i s = .next (assemblePairs f s.accept.clearErr.clearFrame).finish)
    (hf : ∀ a b, f a b = { bit := bit a b, logged := noisy a b }) (hinv : s.inv) :
    (s.payCount % 2 = 0 → s.numDataBits = 0 ∨ s.payCount / 2 = s.numDataBits →
      ∃ t, exec i s = .next t ∧
        s.assembles t .msb (s.payCount / 2)
          (fun k => bit (s.payLevel (2 * k)) (s.payLevel (2 * k + 1)))
          (fun k => noisy (s.payLevel (2 * k)) (s.payLevel (2 * k + 1)))) ∧
    (s.payCount % 2 = 1 →
      exec i s = .next (s.assemblyFailed (BitVec.ofNat 32 (s.payStart + s.payCount - 1)))) ∧
    (s.payCount % 2 = 0 → s.numDataBits ≠ 0 → s.payCount / 2 ≠ s.numDataBits →
      exec i s = .next (s.assemblyFailed (-1#32))) := by
  obtain ⟨⟨hlegal, -, -, -, -, hframe⟩, hwindow, -⟩ := hinv
  obtain ⟨hfour, -, hmax, -⟩ := (legal_iff _).mp hlegal
  rw [hexec]
  refine ⟨fun heven hcount => ?bits, fun hodd => ?odd, fun heven hcheck hcount => ?wrongCount⟩
  case bits =>
    have hpairs := payload_pairs_le hwindow heven
    have hroom : s.payCount / 2 ≤ 8 * s.out.frame.length := by rw [hframe, Params.frameCap]; omega
    have hword : s.payCount / 2 < 2 ^ 32 := by omega
    rw [assemblePairs_of_count (s := s.accept.clearErr.clearFrame) heven hcount]
    exact ⟨_, rfl, assembles_of_outcomes .msb (fun _ => hf _ _) hroom hword⟩
  case odd =>
    have hindex : s.work.payStart + s.work.payCount - 1#32 =
        BitVec.ofNat 32 (s.payStart + s.payCount - 1) := by
      simp only [State.payStart, State.payCount] at hodd ⊢
      bv_omega
    rw [assemblePairs_of_odd (s := s.accept.clearErr.clearFrame) hodd, ← hindex]
    exact congrArg _ (finish_raise_assemblerError s _)
  case wrongCount =>
    rw [assemblePairs_of_wrong_count (s := s.accept.clearErr.clearFrame) heven hcheck hcount]
    exact congrArg _ (finish_raise_assemblerError s _)

/-- Settles O33: forty outcomes that `dhtOutcome_eq` gives in the words of rule R164. -/
theorem assembleDhtDecodesFortySymbols : Obligations.AssembleDhtDecodesFortySymbols := by
  refine ⟨fun _ => decodeWord_encode (i := .assembleDht), fun s hshape _ hgood => ?_⟩
  rw [← badAssemble_iff s (.inl rfl), Bool.not_eq_true] at hgood
  obtain ⟨-, hmin, -⟩ := (legal_iff _).mp hshape.1
  exact exec_assembleRaw (n := 40) (exec_assemble (stage := assembleDhtStage) rfl hgood) dhtOutcome_eq
    hshape fun _ => by omega

/-- Settles O34: the data bits of an accepted capture are no more than its symbols, so that the frame
has room for them. -/
theorem assemblePulseDistanceDecodesTheDataBits : Obligations.AssemblePulseDistanceDecodesTheDataBits := by
  refine ⟨fun _ => decodeWord_encode (i := .assemblePd), fun s hshape hsel hgood => ?_⟩
  rw [← badAssemble_iff s (.inr (.inr (.inr rfl))), Bool.not_eq_true] at hgood
  obtain ⟨-, -, hdistance, -⟩ := ctrlPolicy_iff s.cfg.ctrl
  obtain ⟨-, hfits⟩ := badAssemble_eq_false hgood
  have hsyms : s.symCount ≤ s.params.rawCap := hfits (hdistance.mp (beq_iff_eq.mp hsel))
  exact exec_assembleRaw (exec_assemble (stage := assemblePdStage) rfl hgood)
    (pulseDistanceOutcome_eq s.cfg.base s.cfg.tol) hshape fun hlong => by omega

theorem badAssemble_of_manchester {s : State} (h : s.cfg.ctrl.extractLsb' 0 2 = 1#2) :
    s.badAssemble = false := by
  obtain ⟨-, hman, -⟩ := ctrlPolicy_iff s.cfg.ctrl
  simp [State.badAssemble, State.policy, hman.mp h]

/-- Settles O35: the pair outcomes of table T169's normal column. -/
theorem assembleManchesterFollowsItsTable : Obligations.AssembleManchesterFollowsItsTable := by
  refine ⟨fun _ => decodeWord_encode (i := .assembleMan), fun s hinv hsel => ?_⟩
  simp only [Instr.wellFormed, Bool.and_eq_true, beq_iff_eq] at hsel
  obtain ⟨hpolicy, -⟩ := hsel
  have hgood := badAssemble_of_manchester hpolicy
  exact exec_assemblePairs (exec_assemble (stage := assembleManStage) rfl hgood) manchesterOutcome_eq hinv

/-- Settles O36: the pair outcomes of table T169's differential column, of which none is logged. -/
theorem assembleDifferentialFollowsItsTable : Obligations.AssembleDifferentialFollowsItsTable := by
  refine ⟨fun _ => decodeWord_encode (i := .assembleDman), fun s hinv hsel => ?_⟩
  simp only [Instr.wellFormed, Bool.and_eq_true, beq_iff_eq] at hsel
  obtain ⟨hpolicy, -⟩ := hsel
  have hgood := badAssemble_of_manchester hpolicy
  exact exec_assemblePairs (exec_assemble (stage := assembleDmanStage) rfl hgood) differentialOutcome_eq
    hinv

end Sys2Proof.Machine

/-! U5, the checksum validator, and its command VALIDATE (44_checksum_validator.md). -/

namespace Sys2Proof.Machine

/-! ### The readings and the checks (rules R201 to R203) -/

theorem joined_bytes_toNat (hi lo : Byte) :
    ((hi.setWidth 32 <<< 8) ||| lo.setWidth 32 : Word).toNat = 256 * hi.toNat + lo.toNat := by
  have hword : hi.toNat <<< 8 < 2 ^ 32 := by
    rw [Nat.shiftLeft_eq]
    omega
  rw [BitVec.toNat_or, BitVec.toNat_shiftLeft, BitVec.toNat_setWidth_of_le (by decide),
    BitVec.toNat_setWidth_of_le (by decide), Nat.mod_eq_of_lt hword,
    ← Nat.shiftLeft_add_eq_or_of_lt lo.isLt, Nat.shiftLeft_eq, Nat.mul_comm]

theorem humidity_toNat (b0 b1 : Byte) : (humidity b0 b1).toNat = 256 * b0.toNat + b1.toNat :=
  joined_bytes_toNat b0 b1

theorem temperatureMagnitude_toNat (b2 b3 : Byte) :
    (temperatureMagnitude b2 b3).toNat = 256 * (b2.toNat % 128) + b3.toNat := by
  rw [temperatureMagnitude, joined_bytes_toNat, BitVec.toNat_and]
  exact congrArg (256 * · + b3.toNat) (Nat.and_two_pow_sub_one_eq_mod b2.toNat 7)

theorem temperatureNegative_eq (b2 : Byte) : temperatureNegative b2 = decide (128 ≤ b2.toNat) :=
  BitVec.msb_eq_decide b2

/-- The reading is the magnitude under its sign: a magnitude of 15 bits has the same value as an i32. -/
theorem temperature_toInt (b2 b3 : Byte) :
    (temperature b2 b3).toInt =
      (if 128 ≤ b2.toNat then -1 else 1) * ((256 * (b2.toNat % 128) + b3.toNat : Nat) : Int) := by
  have hmag := temperatureMagnitude_toNat b2 b3
  have hsmall := temperatureMagnitude_lt b2 b3
  have hint : (temperatureMagnitude b2 b3).toInt = (temperatureMagnitude b2 b3).toNat :=
    BitVec.toInt_eq_toNat_of_lt (by omega)
  rw [temperature, temperatureNegative_eq, ← hmag, ← hint]
  simp only [decide_eq_true_eq]
  split
  next => rw [BitVec.toInt_neg_of_ne_intMin (by bv_omega), Int.neg_one_mul]
  next => rw [Int.one_mul]

/-- A pair passes when every bit position is 1 in one of its bytes. -/
theorem necPairFails_iff (x y : Byte) :
    necPairFails x y = true ↔ ∃ q, q < 8 ∧ x.getLsbD q = false ∧ y.getLsbD q = false := by
  have hpass : x ||| y = 0xFF#8 ↔ ∀ q, q < 8 → (x.getLsbD q || y.getLsbD q) = true := by
    have hones : ∀ q, q < 8 → (0xFF#8).getLsbD q = true := by decide
    rw [BitVec.eq_of_getLsbD_eq_iff]
    exact forall₂_congr fun q hq => by rw [BitVec.getLsbD_or, hones q hq]
  rw [necPairFails, bne_iff_ne, ne_eq, hpass]
  simp

/-! ### The states that VALIDATE leaves -/

/-- `s` after a VALIDATE that left STATUS `st` and the readings `hum` and `temp` (rule R200). -/
def State.validatedWith (s : State) (st : Status) (hum temp : Word) : State :=
  { s with out.humX10 := hum, out.tempX10 := temp, rep.status := st, rep.errIndex := -1#32 }

/-- STATUS of a frame that is not 40 bits (rule R201). -/
def Status.dhtIncomplete : Status :=
  { Status.doneOnly with
    errKind := .incompleteFrame, errUnit := .validator, chk := .notApplicable }

/-- STATUS of a 40-bit frame with the sign bit `neg` whose sum checks, or does not (rule R201). -/
def Status.dhtChecked (neg ok : Bool) : Status :=
  if ok then
    { Status.doneOnly with
      chk := .pass, validated := true, frameOk := true, htValid := true, tempNeg := neg }
  else
    { Status.doneOnly with
      errKind := .checksumMismatch, errUnit := .validator
      chk := .fail, validated := true, htValid := true, tempNeg := neg }

/-- STATUS of a frame that is delivered and locked whatever its check said (rules R203 and R204). -/
def Status.delivered (chk : Chk) (fail0 fail1 : Bool) : Status :=
  { Status.doneOnly with
    chk := chk, validated := true, frameOk := true, necFail0 := fail0, necFail1 := fail1 }

theorem validatedWith_sameInputs (s : State) (st : Status) (hum temp : Word) :
    s.sameInputs (s.validatedWith st hum temp) := ⟨rfl, rfl, rfl, rfl, rfl, rfl⟩

/-! ### The stages -/

section
variable {s : State}

theorem validateDhtStage_of_incomplete (h : s.bitCount ≠ 40) :
    (validateDhtStage s.accept.clearErr.clearValidation).finish =
      s.validatedWith .dhtIncomplete 0#32 0#32 := by
  have hbits : s.accept.clearErr.clearValidation.bitCount ≠ Config.dhtBits := h
  rw [validateDhtStage, if_pos hbits]
  rfl

theorem validateDhtStage_of_complete (h : s.bitCount = 40) :
    (validateDhtStage s.accept.clearErr.clearValidation).finish =
      s.validatedWith
        (.dhtChecked (temperatureNegative (s.frameAt 2))
          (checksumOk (s.frameAt 0) (s.frameAt 1) (s.frameAt 2) (s.frameAt 3) (s.frameAt 4)))
        (humidity (s.frameAt 0) (s.frameAt 1)) (temperature (s.frameAt 2) (s.frameAt 3)) := by
  have hbits : s.accept.clearErr.clearValidation.bitCount = Config.dhtBits := h
  have hframe : s.accept.clearErr.clearValidation.frameAt = s.frameAt := rfl
  rw [validateDhtStage, if_neg (not_not_intro hbits), hframe]
  cases checksumOk (s.frameAt 0) (s.frameAt 1) (s.frameAt 2) (s.frameAt 3) (s.frameAt 4) <;> rfl

theorem writeNecChecks_of_checked (h : s.bitCount = Config.necBits) :
    s.writeNecChecks =
      let fail0 := necPairFails (s.frameAt 0) (s.frameAt 1)
      let fail1 := necPairFails (s.frameAt 2) (s.frameAt 3)
      { s with
        rep.status.necFail0 := fail0, rep.status.necFail1 := fail1
        rep.status.chk := if fail0 || fail1 then .fail else .pass } := if_pos h

theorem writeNecChecks_of_unchecked (h : s.bitCount ≠ Config.necBits) :
    s.writeNecChecks = { s with rep.status.chk := .notApplicable } := if_neg h

theorem validateNecStage_of_checked (h : s.bitCount = 32) :
    (validateNecStage s.accept.clearErr.clearValidation).finish =
      let fail0 := necPairFails (s.frameAt 0) (s.frameAt 1)
      let fail1 := necPairFails (s.frameAt 2) (s.frameAt 3)
      s.validatedWith (.delivered (if fail0 || fail1 then .fail else .pass) fail0 fail1) 0#32 0#32 := by
  rw [validateNecStage, writeNecChecks_of_checked (s := s.accept.clearErr.clearValidation) h]
  rfl

theorem validateNecStage_of_unchecked (h : s.bitCount ≠ 32) :
    (validateNecStage s.accept.clearErr.clearValidation).finish =
      s.validatedWith (.delivered .notApplicable false false) 0#32 0#32 := by
  rw [validateNecStage, writeNecChecks_of_unchecked (s := s.accept.clearErr.clearValidation) h]
  rfl

theorem validateNoneStage_finish_eq :
    (validateNoneStage s.accept.clearErr.clearValidation).finish =
      s.validatedWith (.delivered .notApplicable false false) 0#32 0#32 := rfl

/-! ### The command -/

theorem badValidate_iff : s.badValidate = true ↔ s.cfg.ctrl.extractLsb' 0 2 = 3#2 := by
  obtain ⟨-, -, -, hreserved, -⟩ := ctrlPolicy_iff s.cfg.ctrl
  rw [hreserved, State.badValidate, beq_iff_eq, State.policy]

/-- A row of VALIDATE that CTRL selects is not refused: it runs its stage between the clears and DONE. -/
theorem exec_validate {i : Instr} {stage : State → State} {p : BitVec 2}
    (hrow : exec i s =
      .next (stageCommand s.badValidate (fun s => s.clearErr.clearValidation) stage s))
    (hpolicy : s.cfg.ctrl.extractLsb' 0 2 = p) (hp : p ≠ 3#2) :
    exec i s = .next (stage s.accept.clearErr.clearValidation).finish := by
  have hgood : s.badValidate = false := by
    rw [← Bool.not_eq_true, badValidate_iff, hpolicy]
    exact hp
  rw [hrow, hgood, stageCommand_good]

theorem exec_validateDht (h : Instr.validateDht.wellFormed s.cfg.ctrl = true) :
    exec .validateDht s = .next (validateDhtStage s.accept.clearErr.clearValidation).finish :=
  exec_validate rfl (beq_iff_eq.mp h) (by decide)

theorem exec_validateNone (h : Instr.validateNone.wellFormed s.cfg.ctrl = true) :
    exec .validateNone s = .next (validateNoneStage s.accept.clearErr.clearValidation).finish :=
  exec_validate rfl (beq_iff_eq.mp h) (by decide)

theorem exec_validateNec (h : Instr.validateNec.wellFormed s.cfg.ctrl = true) :
    exec .validateNec s = .next (validateNecStage s.accept.clearErr.clearValidation).finish :=
  exec_validate rfl (beq_iff_eq.mp h) (by decide)

end

/-- Settles O38: the bit count decides whether the readings are made, the sum what STATUS says of them. -/
theorem validateDhtChecksTheSum : Obligations.ValidateDhtChecksTheSum := by
  intro s hsel b
  rw [exec_validateDht hsel]
  by_cases hbits : s.bitCount = 40
  · rw [validateDhtStage_of_complete hbits]
    refine ⟨_, rfl, validatedWith_sameInputs .., rfl, rfl, rfl, rfl, rfl, rfl, rfl, rfl,
      absurd hbits, fun _ => ⟨humidity_toNat .., temperature_toInt .., ?status⟩⟩
    case status =>
      rw [temperatureNegative_eq, checksumOk]
      simp only [State.validatedWith, Status.dhtChecked, decide_eq_true_eq, b]
  · rw [validateDhtStage_of_incomplete hbits]
    exact ⟨_, rfl, validatedWith_sameInputs .., rfl, rfl, rfl, rfl, rfl, rfl, rfl, rfl,
      fun _ => ⟨rfl, rfl, rfl⟩, fun h => absurd h hbits⟩

/-- Settles O39: the bytes pass the check of O38, and its readings of them are the numbers they were
made from. -/
theorem checksummedReadingsAreRecovered : Obligations.ChecksummedReadingsAreRecovered := by
  intro s h temp hsel hh hlo hhi hbits m b2 h0 h1 h2 h3 h4
  obtain ⟨t, hexec, -, -, -, -, -, -, -, -, -, -, hread⟩ := validateDhtChecksTheSum s hsel
  obtain ⟨hhum, htemp, hstatus⟩ := hread hbits
  beta_reduce at hhum htemp hstatus
  have hsign : 128 ≤ b2 ↔ temp < 0 := by
    simp only [b2]
    split <;> omega
  have hmag : 256 * (b2 % 128) + m % 256 = m := by
    simp only [b2]
    split <;> omega
  rw [h0, h1, h2, h3, h4, if_pos rfl] at hstatus
  rw [h0, h1] at hhum
  rw [h2, h3, hmag] at htemp
  refine ⟨t, hexec, ?error, ?check, ?valid, ?hum, ?temp, ?neg⟩
  case error => rw [State.noError, hstatus]; rfl
  case check => rw [hstatus]
  case valid => rw [hstatus]
  case hum => omega
  case temp =>
    rw [htemp]
    split <;> omega
  case neg =>
    rw [hstatus]
    exact decide_eq_true_iff.trans hsign

/-- Settles O40: the bit count decides whether the pairs are tested; the frame is delivered either way. -/
theorem validateNecIsAnAdvisoryOrTest : Obligations.ValidateNecIsAnAdvisoryOrTest := by
  refine ⟨fun _ => decodeWord_encode (i := .validateNec), fun s hsel => ?_⟩
  rw [exec_validateNec hsel]
  by_cases hbits : s.bitCount = 32
  · rw [validateNecStage_of_checked hbits]
    refine ⟨_, rfl, validatedWith_sameInputs .., rfl, rfl, rfl,
      fun _ => ⟨necPairFails_iff .., necPairFails_iff .., ?check⟩, absurd hbits⟩
    case check => simp only [State.validatedWith, Status.delivered, Bool.or_eq_true]
  · rw [validateNecStage_of_unchecked hbits]
    exact ⟨_, rfl, validatedWith_sameInputs .., rfl, rfl, rfl, fun h => absurd h hbits,
      fun _ => ⟨rfl, rfl, rfl⟩⟩

/-- Settles O41: the stage tests nothing, so it leaves the one state. -/
theorem validateNonePassesTheFrameThrough : Obligations.ValidateNonePassesTheFrameThrough := by
  refine ⟨fun _ => decodeWord_encode (i := .validateNone), fun s hsel => ?_⟩
  rw [exec_validateNone hsel, validateNoneStage_finish_eq]
  rfl

end Sys2Proof.Machine

/-! ## The commands as a whole (rules R220 to R224) -/

namespace Sys2Proof.Machine

/-- Table T221, row by row: the command is refused as bad configuration. -/
def State.refuses (s : State) : Instr → Bool
  | .nop | .clear | .classify => false
  | .normalize => s.badCapture
  | .matchPreamble => s.badPatterns
  | .assembleDht | .assembleMan | .assembleDman | .assemblePd => s.badAssemble
  | .validateDht | .validateNone | .validateNec => s.badValidate
  | .decode => s.badDecode

/-- What an accepted command leaves (table T224): a stage command clears, runs its stage, and sets DONE. -/
def State.ran (s : State) : Instr → State
  | .nop => s.accept
  | .clear => { s.accept.clearPipeline with rep.clsResult := ClsResult.zero }
  | .classify => { s.accept with rep.clsResult := classifyFlags s.inp.clsDur s.cfg.base s.cfg.tol }
  | .normalize => (normalizeStage s.accept.clearErr.clearUnits).finish
  | .matchPreamble => (matchStage s.accept.clearErr.clearPayload).finish
  | .assembleDht => (assembleDhtStage s.accept.clearErr.clearFrame).finish
  | .assembleMan => (assembleManStage s.accept.clearErr.clearFrame).finish
  | .assembleDman => (assembleDmanStage s.accept.clearErr.clearFrame).finish
  | .assemblePd => (assemblePdStage s.accept.clearErr.clearFrame).finish
  | .validateDht => (validateDhtStage s.accept.clearErr.clearValidation).finish
  | .validateNone => (validateNoneStage s.accept.clearErr.clearValidation).finish
  | .validateNec => (validateNecStage s.accept.clearErr.clearValidation).finish
  | .decode => (decodeStage s.accept.clearPipeline).finish

/-- Listing L220: every command is refused or runs. -/
theorem exec_eq (i : Instr) (s : State) :
    exec i s = .next (if s.refuses i then s.refuse .badConfig else s.ran i) := by
  cases i <;> rfl

theorem exec_of_refuses {i : Instr} {s : State} (h : s.refuses i = true) :
    exec i s = .next (s.refuse .badConfig) := by
  rw [exec_eq, if_pos h]

theorem exec_of_accepts {i : Instr} {s : State} (h : s.refuses i = false) : exec i s = .next (s.ran i) := by
  rw [exec_eq, h]
  rfl

theorem exec_cases {i : Instr} {s t : State} (he : exec i s = .next t) :
    t = s.refuse .badConfig ∨ t = s.ran i := by
  rw [exec_eq] at he
  cases he
  exact ite_eq_or_eq ..

theorem exec_answers (i : Instr) (s : State) : ∃ t, exec i s = .next t := ⟨_, exec_eq i s⟩

/-! ### Refusal -/

/-- Table T221 as the model tests it and as rule R221 words it. -/
theorem refuses_iff (s : State) (i : Instr) : s.refuses i = true ↔ s.misconfigured i := by
  cases i with
  | nop | clear | classify => simp [State.refuses, State.misconfigured]
  | normalize => exact badCapture_iff s
  | matchPreamble => exact badPatterns_iff s
  | assembleDht | assembleMan | assembleDman | assemblePd => exact badAssemble_iff s (by simp)
  | validateDht | validateNone | validateNec => exact beq_iff_eq
  | decode => exact badDecode_iff s

theorem refuses_eq_false_iff (s : State) (i : Instr) : s.refuses i = false ↔ ¬ s.misconfigured i := by
  rw [← refuses_iff, Bool.not_eq_true]

theorem State.keptBy.cmdErr_accepted {s t : State} (h : s.keptBy t) (hs : s.rep.status.cmdErr = .accepted) :
    t.rep.status.cmdErr = .accepted := by
  obtain ⟨-, hcmd, -⟩ := h
  exact hcmd.trans hs

/-- An accepted command leaves CMD_ERR = 0: no clear and no stage writes it (rule R220). -/
theorem ran_cmdErr (s : State) (i : Instr) : (s.ran i).rep.status.cmdErr = .accepted := by
  cases i with
  | nop | clear | classify => rfl
  | normalize => exact (normalizeStage_keeps _).cmdErr_accepted rfl
  | matchPreamble => exact (matchStage_keeps _).cmdErr_accepted rfl
  | assembleDht | assemblePd => exact (assembleRaw_outcome ..).keeps.cmdErr_accepted rfl
  | assembleMan | assembleDman => exact (assemblePairs_outcome ..).keeps.cmdErr_accepted rfl
  | validateDht => exact (validateDhtStage_outcome _).keeps.cmdErr_accepted rfl
  | validateNone => rfl
  | validateNec => exact (validateNecStage_outcome _).keeps.cmdErr_accepted rfl
  | decode => exact (decodeStage_keeps _).cmdErr_accepted rfl

/-- Settles O6: `exec_eq` with table T221 as `refuses_iff` words it; under the reserved policy the decoder
itself refuses the words of ASSEMBLE and VALIDATE. -/
theorem badConfigurationIsRefusedAndNothingElse : Obligations.BadConfigurationIsRefusedAndNothingElse := by
  refine ⟨fun i s => ⟨fun hbad => ?refused, fun hgood => ?accepted⟩, fun w s hw hreserved => ?words⟩
  case refused => exact exec_of_refuses ((refuses_iff s i).mpr hbad)
  case accepted => exact ⟨_, exec_of_accepts ((refuses_eq_false_iff s i).mpr hgood), ran_cmdErr s i⟩
  case words =>
    obtain ⟨-, -, -, hpolicy, -⟩ := ctrlPolicy_iff s.cfg.ctrl
    exact runCommand_of_reservedPolicy (decodeWord_eq_reservedPolicy_iff.mpr ⟨hpolicy.mpr hreserved, hw⟩)

/-! ### What lies upstream of a command (table T224) -/

/-- `t` has what NORMALIZE writes as `s` has it. -/
def State.keepsUnits (s t : State) : Prop :=
  t.work.units = s.work.units ∧ t.work.unitCount = s.work.unitCount ∧ t.rep.skipCount = s.rep.skipCount

/-- `t` has what NORMALIZE and MATCH write as `s` has it. -/
def State.keepsWindow (s t : State) : Prop := t.work = s.work ∧ t.rep.skipCount = s.rep.skipCount

/-- `t` has what NORMALIZE, MATCH and ASSEMBLE write as `s` has it. -/
def State.keepsFrame (s t : State) : Prop :=
  s.keepsWindow t ∧ t.out.frame = s.out.frame ∧ t.out.bitCount = s.out.bitCount ∧
    t.rep.bitErrCount = s.rep.bitErrCount ∧ t.rep.bitErrFirst = s.rep.bitErrFirst

theorem State.keepsWindow.units {s t : State} (h : s.keepsWindow t) : s.keepsUnits t := by
  obtain ⟨hwork, hskips⟩ := h
  exact ⟨congrArg _ hwork, congrArg _ hwork, hskips⟩

/-- The stage of VALIDATE after its clear. -/
theorem ValidateOutcome.keepsFrame {s t : State}
    (h : ValidateOutcome s.accept.clearErr.clearValidation t) : s.keepsFrame t.finish := by
  obtain ⟨_, _, _, _, rfl, -⟩ := h
  exact ⟨⟨rfl, rfl⟩, rfl, rfl, rfl, rfl⟩

/-- The stage of ASSEMBLE after its clear. -/
theorem AssembleOutcome.keepsWindow {s t : State} (h : AssembleOutcome s.accept.clearErr.clearFrame t) :
    s.keepsWindow t.finish := by
  obtain ⟨_, rfl⟩ | ⟨_, _, _, _, -, rfl⟩ := h
  · exact ⟨rfl, rfl⟩
  · exact ⟨rfl, rfl⟩

/-- The stage of MATCH after its clear. -/
theorem MatchOutcome.keepsUnits {s t : State} (h : MatchOutcome s.accept.clearErr.clearPayload t) :
    s.keepsUnits t.finish := by
  obtain ⟨_, rfl⟩ | ⟨_, _, _, rfl⟩ := h
  · exact ⟨rfl, rfl, rfl⟩
  · exact ⟨rfl, rfl, rfl⟩

theorem ran_keepsFrame {s : State} {i : Instr}
    (hi : i = .nop ∨ i = .classify ∨ i = .validateDht ∨ i = .validateNone ∨ i = .validateNec) :
    s.keepsFrame (s.ran i) := by
  rcases hi with rfl | rfl | rfl | rfl | rfl
  · exact ⟨⟨rfl, rfl⟩, rfl, rfl, rfl, rfl⟩
  · exact ⟨⟨rfl, rfl⟩, rfl, rfl, rfl, rfl⟩
  · exact (validateDhtStage_outcome _).keepsFrame
  · exact (validateNoneStage_outcome _).keepsFrame
  · exact (validateNecStage_outcome _).keepsFrame

theorem ran_keepsWindow {s : State} {i : Instr} (hnormalize : i ≠ .normalize) (hdecode : i ≠ .decode)
    (hclear : i ≠ .clear) (hmatch : i ≠ .matchPreamble) : s.keepsWindow (s.ran i) := by
  cases i with
  | normalize | decode | clear | matchPreamble => contradiction
  | assembleDht | assemblePd => exact (assembleRaw_outcome ..).keepsWindow
  | assembleMan | assembleDman => exact (assemblePairs_outcome ..).keepsWindow
  | nop | classify | validateDht | validateNone | validateNec => exact (ran_keepsFrame (by simp)).1

theorem ran_keepsUnits {s : State} {i : Instr} (hnormalize : i ≠ .normalize) (hdecode : i ≠ .decode)
    (hclear : i ≠ .clear) : s.keepsUnits (s.ran i) := by
  by_cases hmatch : i = .matchPreamble
  · rw [hmatch]
    exact (matchStage_matchOutcome _).keepsUnits
  · exact (ran_keepsWindow hnormalize hdecode hclear hmatch).units

theorem State.sameInputs_trans {s t u : State} (h : s.sameInputs t) (g : t.sameInputs u) : s.sameInputs u := by
  obtain ⟨hp, hc, hi, hpending, hrdata, hresets⟩ := h
  obtain ⟨hp', hc', hi', hpending', hrdata', hresets'⟩ := g
  exact ⟨hp'.trans hp, hc'.trans hc, hi'.trans hi, hpending'.trans hpending, hrdata'.trans hrdata,
    hresets'.trans hresets⟩

theorem State.sameInputs_cfg {s t : State} (h : s.sameInputs t) : t.cfg = s.cfg := by
  obtain ⟨-, hcfg, -⟩ := h
  exact hcfg

/-- A stage after a clear of its own, and DONE. -/
theorem State.keptBy.finish_keeps {s u t : State} (h : u.keptBy t) (hinputs : s.sameInputs u)
    (hcls : u.rep.clsResult = s.rep.clsResult) :
    s.sameInputs t.finish ∧ t.finish.rep.clsResult = s.rep.clsResult := by
  obtain ⟨hstage, -, -, hcls', -⟩ := h
  exact ⟨State.sameInputs_trans hinputs hstage, hcls'.trans hcls⟩

/-- No command writes a configuration or input register, and only CLASSIFY and CLEAR write CLS_RESULT. -/
theorem ran_keeps (s : State) (i : Instr) :
    s.sameInputs (s.ran i) ∧
      (i ≠ .classify → i ≠ .clear → (s.ran i).rep.clsResult = s.rep.clsResult) := by
  have stage : ∀ {u t : State}, u.keptBy t → s.sameInputs u → u.rep.clsResult = s.rep.clsResult →
      s.sameInputs t.finish ∧
        (i ≠ .classify → i ≠ .clear → t.finish.rep.clsResult = s.rep.clsResult) :=
    fun hkeeps hinputs hcls =>
      (hkeeps.finish_keeps hinputs hcls).imp_right fun h _ _ => h
  cases i with
  | nop => exact ⟨⟨rfl, rfl, rfl, rfl, rfl, rfl⟩, fun _ _ => rfl⟩
  | clear => exact ⟨clearPipeline_sameInputs s, fun _ h => absurd rfl h⟩
  | classify => exact ⟨⟨rfl, rfl, rfl, rfl, rfl, rfl⟩, fun h => absurd rfl h⟩
  | normalize => exact stage (normalizeStage_keeps _) (clearUnits_sameInputs s) rfl
  | matchPreamble => exact stage (matchStage_keeps _) (clearPayload_sameInputs s) rfl
  | assembleDht | assemblePd => exact stage (assembleRaw_outcome ..).keeps (clearFrame_sameInputs s) rfl
  | assembleMan | assembleDman => exact stage (assemblePairs_outcome ..).keeps (clearFrame_sameInputs s) rfl
  | validateDht => exact stage (validateDhtStage_outcome _).keeps (clearValidation_sameInputs s) rfl
  | validateNone => exact stage (validateNoneStage_outcome _).keeps (clearValidation_sameInputs s) rfl
  | validateNec => exact stage (validateNecStage_outcome _).keeps (clearValidation_sameInputs s) rfl
  | decode => exact stage (decodeStage_keeps _) (clearPipeline_sameInputs s) rfl

/-- Settles O46: a refused command keeps everything upstream, an accepted one what the `ran_keeps` lemmas
list for its place in the order NORMALIZE, MATCH, ASSEMBLE, VALIDATE. -/
theorem commandsKeepWhatLiesUpstream : Obligations.CommandsKeepWhatLiesUpstream := by
  intro i s t he
  obtain rfl | rfl := exec_cases he
  · exact ⟨⟨rfl, rfl, rfl, rfl, rfl, rfl⟩, fun _ _ => rfl, fun _ _ => rfl, fun _ _ _ => ⟨rfl, rfl⟩,
      fun _ _ _ _ => ⟨rfl, rfl, rfl⟩, fun _ => ⟨rfl, rfl, rfl, rfl⟩⟩
  obtain ⟨hinputs, hcls⟩ := ran_keeps s i
  refine ⟨hinputs, hcls, ?units, ?counts, ?window, fun hi => (ran_keepsFrame hi).2⟩
  case units =>
    intro hnormalize hdecode
    by_cases hclear : i = .clear
    · rw [hclear]
      rfl
    · exact (ran_keepsUnits hnormalize hdecode hclear).1
  case counts => exact fun hnormalize hdecode hclear => (ran_keepsUnits hnormalize hdecode hclear).2
  case window =>
    intro hnormalize hdecode hclear hmatch
    obtain ⟨hwork, -⟩ := ran_keepsWindow (s := s) hnormalize hdecode hclear hmatch
    rw [hwork]
    exact ⟨rfl, rfl, rfl⟩

/-! ### The step, NOP and CLEAR -/

/-- Settles O4: `step_command` with the decoder's answer. -/
theorem stepRunsTheDecodedCommand : Obligations.StepRunsTheDecodedCommand := by
  refine ⟨fun s w rest i hpending hdecode => ?command, fun s hidle => ?idle⟩
  case command => exact (step_command hpending).trans (runCommand_of_instr hdecode)
  case idle => rw [step, hidle]

/-- CMD_ERR stands in bits 17:16 of STATUS (table T33). -/
theorem Status.word_accepted (t : Status) :
    Status.word { t with cmdErr := .accepted } = t.word &&& 0xFFFCFFFF#32 := by
  have hmask : 0xFFFCFFFF#32 =
      BitVec.allOnes 14 ++ 0#2 ++ BitVec.allOnes 1 ++ BitVec.allOnes 1 ++ BitVec.allOnes 1 ++
        BitVec.allOnes 1 ++ BitVec.allOnes 1 ++ BitVec.allOnes 1 ++ BitVec.allOnes 2 ++
        BitVec.allOnes 1 ++ BitVec.allOnes 1 ++ BitVec.allOnes 3 ++ BitVec.allOnes 2 ++
        BitVec.allOnes 1 := by decide
  rw [hmask]
  change _ = HAnd.hAnd (α := BitVec (14 + 2 + 1 + 1 + 1 + 1 + 1 + 1 + 2 + 1 + 1 + 3 + 2 + 1)) _ _
  simp only [Status.word, BitVec.and_append, BitVec.and_zero, BitVec.and_allOnes]
  rfl

theorem readPlace_accept (s : State) {q : Place} (h : q ≠ .status) :
    s.accept.readPlace q = s.readPlace q := by
  cases q
  case status => exact absurd rfl h
  all_goals rfl

/-- Settles O23: NOP is `accept`, and STATUS is the one word that shows CMD_ERR. -/
theorem nopClearsOnlyTheCommandOutcome : Obligations.NopClearsOnlyTheCommandOutcome := by
  refine ⟨fun _ => decodeWord_eq_instr_iff.mpr ⟨rfl, rfl⟩, fun s => ⟨s.accept, rfl, ?status, ?others,
    rfl, rfl, rfl, rfl, rfl, rfl, rfl, rfl⟩⟩
  case status => exact Status.word_accepted s.rep.status
  case others =>
    intro a ha
    have hstatus : locate s.params 0x0001#14 = .status := rfl
    refine readPlace_accept s fun hplace => ha ?_
    exact (locate_injective (hstatus.trans hplace.symm) (by rw [hstatus]; nofun)).symm

/-- Settles O24: CLEAR is ClearPipeline and the clear of CLS_RESULT. -/
theorem clearRestoresTheResetResults : Obligations.ClearRestoresTheResetResults := by
  refine ⟨fun _ => decodeWord_eq_instr_iff.mpr ⟨rfl, rfl⟩, fun s => ?_⟩
  rw [exec_of_accepts rfl, State.ran, clearPipeline_eq]

/-! ### The frame gate of DECODE -/

theorem exec_decode {s : State} (h : ¬ s.misconfigured .decode) :
    exec .decode s = .next (decodeStage s.accept.clearPipeline).finish :=
  exec_of_accepts ((refuses_eq_false_iff s .decode).mpr h)

/-- The gate reads the configuration and the inputs only. -/
theorem gateOpen_congr {s t : State} (h : s.sameInputs t) : t.gateOpen ↔ s.gateOpen := by
  obtain ⟨-, hcfg, hinp, -⟩ := h
  simp only [State.gateOpen, State.expectedSyms, State.symCount, hcfg, hinp]

theorem decodeStage_of_gateClosed {s : State} (h : ¬ s.gateOpen) :
    decodeStage s = ({ s with rep.status.skipped := true } : State).raise gateError :=
  if_pos ((gateSkips_iff s).mpr h)

theorem decodeStage_of_gateOpen {s : State} (h : s.gateOpen) : decodeStage s = decodeStages s :=
  if_neg fun hskips => (gateSkips_iff s).mp hskips h

/-- Settles O42: behind a closed gate DECODE is ClearPipeline, the gate's error and DONE. -/
theorem decodeSkipsExtraneousCaptures : Obligations.DecodeSkipsExtraneousCaptures := by
  intro s hgood hclosed
  have hgate := mt (gateOpen_congr (clearPipeline_sameInputs s)).mp hclosed
  rw [exec_decode hgood, decodeStage_of_gateClosed hgate, clearPipeline_eq]
  rfl

end Sys2Proof.Machine

/-! ## DECODE and the staged commands (rules R226 to R228) -/

namespace Sys2Proof.Machine

/-- `s` with DONE set and CLS_RESULT = 0: CLEAR and the staged commands leave this where DECODE, on its
way through the stages, is in `s`. -/
def State.staged (s : State) : State := { s.finish with rep.clsResult := ClsResult.zero }

@[simp] theorem State.finish_staged (s : State) : s.staged.finish = s.staged := rfl

theorem State.staged_noError_iff (s : State) : s.staged.noError ↔ s.noError := Iff.rfl

theorem finish_eq_staged_of_kept {s x : State} (h : s.accept.clearPipeline.keptBy x) :
    x.finish = { x.staged with rep.clsResult := s.rep.clsResult } := by
  obtain ⟨-, -, -, hcls, -⟩ := h
  rw [← hcls.trans (by simp : _ = s.rep.clsResult)]
  rfl

/-! ### The stages read neither DONE nor CLS_RESULT -/

theorem normalizeStage_staged {s : State} (hb : s.unitCount + 4 * s.symCount < 2 ^ 32) :
    normalizeStage s.staged = (normalizeStage s).staged := by
  obtain ⟨hwalk, hfail, -⟩ := walk_congr (s := s) (t := s.staged) rfl rfl
  have hwalked : ∀ ok, s.staged.afterHalves ok = (s.afterHalves ok).staged := fun _ => rfl
  rw [normalizeStage_eq (s := s.staged) hb, normalizeStage_eq hb, hwalk, hfail, hwalked]
  cases s.failingHalf <;> rfl

/-- A stage that keeps UNIT, commutes with setting DONE and with replacing the leftovers of an earlier
decode. -/
theorem stage_staged_of_withLeftovers {stage : State → State} {s : State}
    (hfinish : ∀ x : State, stage x.finish = (stage x).finish)
    (hleft : ∀ {x : State}, s.unitsAgree x → stage (s.withLeftovers x) = (stage s).withLeftovers x)
    (hkeeps : s.keptBy (stage s)) (hunits : (stage s).work.units = s.work.units) :
    stage s.staged = (stage s).staged := by
  obtain ⟨⟨-, -, -, hpending, hrdata, hresets⟩, -⟩ := hkeeps
  have hagree : s.unitsAgree { s with rep.clsResult := ClsResult.zero } := ⟨rfl, fun _ _ => rfl⟩
  calc stage s.staged
      = stage (s.withLeftovers { s with rep.clsResult := ClsResult.zero }).finish := rfl
    _ = ((stage s).withLeftovers { s with rep.clsResult := ClsResult.zero }).finish := by
        rw [hfinish, hleft hagree]
    _ = (stage s).staged := by
        simp only [State.withLeftovers, State.staged, State.finish, hpending, hrdata, hresets]
        rw [← hunits]

theorem matchStage_keeps_units (s : State) : (matchStage s).work.units = s.work.units := by
  obtain ⟨_, h⟩ | ⟨_, _, _, h⟩ := matchStage_matchOutcome s <;> rw [h]
  rfl

theorem matchStage_staged (s : State) : matchStage s.staged = (matchStage s).staged :=
  stage_staged_of_withLeftovers matchStage_finish matchStage_withLeftovers (matchStage_keeps s)
    (matchStage_keeps_units s)

theorem assembleStage_finish (s : State) : assembleStage s.finish = (assembleStage s).finish := by
  have hpolicy : s.finish.policy = s.policy := rfl
  have hdiff : s.finish.diff = s.diff := rfl
  unfold assembleStage
  rw [hpolicy, hdiff]
  split
  · exact assembleRaw_finish ..
  · split
    · exact assemblePairs_finish ..
    · exact assemblePairs_finish ..
  · exact assemblePdStage_finish s
  · rfl

theorem assembleStage_staged {s : State} (hwindow : s.windowInv) :
    assembleStage s.staged = (assembleStage s).staged :=
  stage_staged_of_withLeftovers assembleStage_finish (assembleStage_withLeftovers · hwindow)
    (assembleStage_outcome s).keeps (congrArg _ (assembleStage_keeps_work s))

theorem validateStage_finish (s : State) : validateStage s.finish = (validateStage s).finish := by
  have hpolicy : s.finish.policy = s.policy := rfl
  unfold validateStage
  rw [hpolicy]
  split
  · exact validateDhtStage_finish s
  · exact validateNoneStage_finish s
  · exact validateNecStage_finish s
  · rfl

theorem validateStage_staged (s : State) : validateStage s.staged = (validateStage s).staged :=
  stage_staged_of_withLeftovers validateStage_finish (fun _ => validateStage_withLeftovers ..)
    (validateStage_outcome s).keeps (congrArg _ (validateStage_keeps_work s))

/-! ### A clear that finds nothing to clear

Each command clears what its stage and the later ones write. After CLEAR and the stages before it, none
of which raised an error, nothing of that has been written yet. -/

/-- The clear of a command changes nothing in `s`. -/
abbrev State.clearedBy (clear : State → State) (s : State) : Prop := clear s.accept = s

theorem clearPipeline_cleared (s : State) :
    s.accept.clearPipeline.clearedBy fun x => x.clearErr.clearUnits := by
  rw [State.clearedBy, clearUnits_eq, clearPipeline_eq, blank_twice]

theorem clearedBy_clearPayload {s : State} (h : s.clearedBy fun x => x.clearErr.clearUnits) :
    s.clearedBy fun x => x.clearErr.clearPayload := by
  rw [State.clearedBy, clearUnits_eq] at h
  rw [State.clearedBy, clearPayload_eq, ← h, blank_twice]

theorem clearedBy_clearFrame {s : State} (h : s.clearedBy fun x => x.clearErr.clearPayload) :
    s.clearedBy fun x => x.clearErr.clearFrame := by
  rw [State.clearedBy, clearPayload_eq] at h
  rw [State.clearedBy, clearFrame_eq, ← h, blank_twice]

theorem clearedBy_clearValidation {s : State} (h : s.clearedBy fun x => x.clearErr.clearFrame) :
    s.clearedBy fun x => x.clearErr.clearValidation := by
  rw [State.clearedBy, clearFrame_eq] at h
  rw [State.clearedBy, clearValidation_eq, ← h]
  rfl

theorem not_noError_raise {e : DecodeError} {s : State} (h : e.kind ≠ .noError) : ¬ (s.raise e).noError := h

theorem normalizeStage_cleared {s : State} (h : s.clearedBy fun x => x.clearErr.clearUnits)
    (hn : (normalizeStage s).noError) : (normalizeStage s).clearedBy fun x => x.clearErr.clearPayload := by
  replace h := clearedBy_clearPayload h
  unfold normalizeStage at hn ⊢
  obtain ⟨us, n, k, -, heq | ⟨p, heq⟩⟩ := normalizeHalves_outcome (halvesOf s.symCount) s
  · rw [heq]
    exact congrArg
      (fun x : State => { x with work.units := us, work.unitCount := n, rep.skipCount := k }) h
  · rw [heq] at hn
    exact absurd hn (not_noError_raise nofun)

theorem matchStage_cleared {s : State} (h : s.clearedBy fun x => x.clearErr.clearPayload)
    (hn : (matchStage s).noError) : (matchStage s).clearedBy fun x => x.clearErr.clearFrame := by
  replace h := clearedBy_clearFrame h
  obtain ⟨j, heq⟩ | ⟨start, count, pad, heq⟩ := matchStage_matchOutcome s
  · rw [heq] at hn
    exact absurd hn (not_noError_raise nofun)
  · rw [heq]
    exact congrArg
      (fun x : State =>
        { x with work := { s.work with payStart := start, payCount := count, payPad := pad } }) h

theorem assembleStage_cleared {s : State} (h : s.clearedBy fun x => x.clearErr.clearFrame)
    (hn : (assembleStage s).noError) : (assembleStage s).clearedBy fun x => x.clearErr.clearValidation := by
  replace h := clearedBy_clearValidation h
  obtain ⟨x, heq⟩ | ⟨f, n, c, l, -, heq⟩ := assembleStage_outcome s
  · rw [heq] at hn
    exact absurd hn (not_noError_raise nofun)
  · rw [heq]
    exact congrArg
      (fun x : State =>
        { x with out.frame := f, out.bitCount := n, rep.bitErrCount := c, rep.bitErrFirst := l }) h

/-! ### The staged commands follow the stages of DECODE

From here on DECODE is in `x` and the staged commands are in `y`, which, once DONE is set, is `x.staged`. -/

theorem State.sameInputs_of_finish {x y : State} (h : y.finish = x.staged) : x.sameInputs y := by
  have hsame : x.staged.sameInputs y.finish := by rw [h]; exact ⟨rfl, rfl, rfl, rfl, rfl, rfl⟩
  exact hsame

/-- A command whose clear finds nothing to clear does what its stage does in DECODE. -/
theorem run_staged {clear stage : State → State} {x y : State} (hy : y.finish = x.staged)
    (hclear : x.clearedBy clear) (hstage : stage x.staged = (stage x).staged)
    (hfinish : ∀ z : State, stage z.finish = (stage z).finish)
    (hdone : clear y.finish.accept = (clear y.accept).finish)
    (hcls : clear x.staged.accept = (clear x.accept).staged) :
    (stage (clear y.accept)).finish = (stage x).staged :=
  calc (stage (clear y.accept)).finish
      = stage (clear y.accept).finish := (hfinish _).symm
    _ = stage (clear x.accept).staged := by rw [← hdone, hy, hcls]
    _ = (stage x).staged := by rw [hclear, hstage]

section
variable {x y : State}

theorem exec_normalize_staged (hy : y.finish = x.staged) (hgood : x.badCapture = false)
    (hclear : x.clearedBy fun x => x.clearErr.clearUnits) (hb : x.unitCount + 4 * x.symCount < 2 ^ 32) :
    exec .normalize y = .next (normalizeStage x).staged := by
  have hgood' := (badCapture_readsInputs x y (State.sameInputs_of_finish hy)).trans hgood
  rw [exec_of_accepts (i := .normalize) hgood', State.ran]
  exact congrArg _ (run_staged hy hclear (normalizeStage_staged hb) normalizeStage_finish rfl rfl)

theorem exec_match_staged (hy : y.finish = x.staged) (hgood : x.badPatterns = false)
    (hclear : x.clearedBy fun x => x.clearErr.clearPayload) :
    exec .matchPreamble y = .next (matchStage x).staged := by
  have hgood' := (badPatterns_readsInputs x y (State.sameInputs_of_finish hy)).trans hgood
  rw [exec_of_accepts (i := .matchPreamble) hgood', State.ran]
  exact congrArg _ (run_staged hy hclear (matchStage_staged x) matchStage_finish rfl rfl)

/-- The row of ASSEMBLE that CTRL selects runs the stage that listing L160 dispatches to. -/
theorem exec_of_decodeAssemble {i : Instr} {s : State} (hi : decodeAssemble s.cfg.ctrl = .instr i)
    (hgood : s.badAssemble = false) : exec i s = .next (assembleStage s.accept.clearErr.clearFrame).finish := by
  have hpolicy : s.accept.clearErr.clearFrame.policy = ctrlPolicy s.cfg.ctrl := rfl
  have hdiff : s.accept.clearErr.clearFrame.diff = ctrlDiff s.cfg.ctrl := rfl
  rw [assembleStage, hpolicy, hdiff]
  unfold decodeAssemble at hi
  cases hp : ctrlPolicy s.cfg.ctrl <;> rw [hp] at hi
  case dhtMarkSpace => cases hi; exact exec_of_accepts hgood
  case manchester =>
    dsimp only at hi ⊢
    split at hi
    next hd => cases hi; rw [if_pos hd]; exact exec_of_accepts hgood
    next hd => cases hi; rw [if_neg hd]; exact exec_of_accepts hgood
  case pulseDistance => cases hi; exact exec_of_accepts hgood
  case reserved => cases hi

/-- The row of VALIDATE that CTRL selects runs the stage that listing L200 dispatches to. -/
theorem exec_of_decodeValidate {j : Instr} {s : State} (hj : decodeValidate s.cfg.ctrl = .instr j)
    (hgood : s.badValidate = false) :
    exec j s = .next (validateStage s.accept.clearErr.clearValidation).finish := by
  have hpolicy : s.accept.clearErr.clearValidation.policy = ctrlPolicy s.cfg.ctrl := rfl
  rw [validateStage, hpolicy]
  unfold decodeValidate at hj
  cases hp : ctrlPolicy s.cfg.ctrl <;> rw [hp] at hj <;> cases hj
  all_goals exact exec_of_accepts hgood

theorem exec_assemble_staged {i : Instr} (hi : decodeAssemble x.cfg.ctrl = .instr i)
    (hy : y.finish = x.staged) (hgood : x.badAssemble = false)
    (hclear : x.clearedBy fun x => x.clearErr.clearFrame) (hwindow : x.windowInv) :
    exec i y = .next (assembleStage x).staged := by
  have hinputs := State.sameInputs_of_finish hy
  rw [exec_of_decodeAssemble (State.sameInputs_cfg hinputs ▸ hi)
    ((badAssemble_readsInputs x y hinputs).trans hgood)]
  exact congrArg _ (run_staged hy hclear (assembleStage_staged hwindow) assembleStage_finish rfl rfl)

theorem exec_validate_staged {j : Instr} (hj : decodeValidate x.cfg.ctrl = .instr j)
    (hy : y.finish = x.staged) (hgood : x.badValidate = false)
    (hclear : x.clearedBy fun x => x.clearErr.clearValidation) :
    exec j y = .next (validateStage x).staged := by
  have hinputs := State.sameInputs_of_finish hy
  rw [exec_of_decodeValidate (State.sameInputs_cfg hinputs ▸ hj)
    ((badValidate_readsInputs x y hinputs).trans hgood)]
  exact congrArg _ (run_staged hy hclear (validateStage_staged x) validateStage_finish rfl rfl)

end

/-! ### DECODE stage by stage -/

theorem unlessError_of_noError {stage : State → State} {s : State} (h : s.noError) :
    unlessError stage s = stage s := if_pos h

theorem unlessError_of_error {stage : State → State} {s : State} (h : ¬ s.noError) :
    unlessError stage s = s := if_neg h

/-- What DECODE does not refuse, its stages' commands do not refuse (table T221). -/
theorem accepts_of_badDecode {s : State} (h : s.badDecode = false) :
    s.badCapture = false ∧ s.badAssemble = false ∧ s.badValidate = false ∧
      (s.policy = .manchester → s.badPatterns = false) := by
  simp only [State.badDecode, Bool.or_eq_false_iff] at h
  obtain ⟨⟨hpolicy, hcapture⟩, hpatterns⟩ := h
  exact ⟨hcapture, by rw [State.badAssemble, hpolicy, hcapture, Bool.and_false]; rfl, hpolicy,
    fun hman => by simpa [hman] using hpatterns⟩

theorem exec_decode_of_gateOpen {s : State} (hgood : ¬ s.misconfigured .decode) (hgate : s.gateOpen) :
    exec .decode s = .next
      (unlessError validateStage (unlessError assembleStage (decodeFront s.accept.clearPipeline))).finish := by
  have hgate' := (gateOpen_congr (clearPipeline_sameInputs s)).mpr hgate
  rw [exec_decode hgood, decodeStage_of_gateOpen hgate', decodeStages_eq]

theorem decodeFront_of_manchester {s : State} (h : s.policy = .manchester) :
    decodeFront s = unlessError matchStage (normalizeStage s) := if_pos h

theorem decodeFront_of_not_manchester {s : State} (h : s.policy ≠ .manchester) : decodeFront s = s := if_neg h

/-- The stages before ASSEMBLE write nothing that ASSEMBLE clears. -/
theorem decodeFront_cleared {s : State} (h : s.clearedBy fun x => x.clearErr.clearUnits)
    (hn : (decodeFront s).noError) : (decodeFront s).clearedBy fun x => x.clearErr.clearFrame := by
  by_cases hman : s.policy = .manchester
  · rw [decodeFront_of_manchester hman] at hn ⊢
    by_cases hnorm : (normalizeStage s).noError
    · rw [unlessError_of_noError hnorm] at hn ⊢
      exact matchStage_cleared (normalizeStage_cleared h hnorm) hn
    · rw [unlessError_of_error hnorm] at hn
      exact absurd hn hnorm
  · rw [decodeFront_of_not_manchester hman]
    exact clearedBy_clearFrame (clearedBy_clearPayload h)

theorem decodeFront_windowInv {s : State} (hshape : s.shaped) (hgood : s.badDecode = false) :
    (decodeFront s.accept.clearPipeline).windowInv := by
  obtain ⟨-, hfits⟩ := badDecode_eq_false hgood
  obtain ⟨-, hwindow, -⟩ := decodeFront_inv (s := s.accept.clearPipeline)
    (clearPipeline_inv (s := s.accept) hshape) (State.clearPipeline_errKind _) (clearPipeline_unitsEmpty _)
    ((captureFits_congr (s := s) (by simp) (by simp)).mpr hfits)
  exact hwindow

/-- ASSEMBLE and VALIDATE, started in `y` where DECODE has come to its assembler. -/
theorem decode_end {s y : State} {i j : Instr} (hshape : s.shaped) (hgood : s.badDecode = false)
    (hi : decodeAssemble s.cfg.ctrl = .instr i) (hj : decodeValidate s.cfg.ctrl = .instr j)
    (hy : (decodeFront s.accept.clearPipeline).noError →
      y.finish = (decodeFront s.accept.clearPipeline).staged) :
    let x := decodeFront s.accept.clearPipeline
    let t := (unlessError validateStage (unlessError assembleStage x)).finish
    ∃ y' y'', exec i y = .next y' ∧ exec j y' = .next y'' ∧
      (x.noError → ¬ y'.noError → t = { y' with rep.clsResult := s.rep.clsResult }) ∧
      (x.noError → y'.noError → t = { y'' with rep.clsResult := s.rep.clsResult }) := by
  intro x t
  obtain ⟨-, hassemble, hvalidate, -⟩ := accepts_of_badDecode hgood
  have hkept : s.accept.clearPipeline.keptBy x := decodeFront_keeps _
  have hkept' := State.keptBy_trans hkept (assembleStage_outcome x).keeps
  have hinputs := State.sameInputs_trans (clearPipeline_sameInputs s) hkept.1
  have hinputs' := State.sameInputs_trans (clearPipeline_sameInputs s) hkept'.1
  obtain ⟨y', hrun⟩ := exec_answers i y
  obtain ⟨y'', hrun'⟩ := exec_answers j y'
  have hassembled : x.noError → y' = (assembleStage x).staged := fun hn =>
    Host.Outcome.next.inj <| hrun.symm.trans <|
      exec_assemble_staged (State.sameInputs_cfg hinputs ▸ hi) (hy hn)
        ((badAssemble_readsInputs s x hinputs).trans hassemble)
        (decodeFront_cleared (clearPipeline_cleared s) hn) (decodeFront_windowInv hshape hgood)
  refine ⟨y', y'', hrun, hrun', fun hn herr => ?_, fun hn hn' => ?_⟩
  · rw [hassembled hn, State.staged_noError_iff] at herr
    rw [hassembled hn]
    simp only [t]
    rw [unlessError_of_noError hn, unlessError_of_error herr, finish_eq_staged_of_kept hkept']
  · rw [hassembled hn] at hrun' hn'
    rw [State.staged_noError_iff] at hn'
    have hclear := assembleStage_cleared (decodeFront_cleared (clearPipeline_cleared s) hn) hn'
    have hvalidated : y'' = (validateStage (assembleStage x)).staged :=
      Host.Outcome.next.inj <| hrun'.symm.trans <|
        exec_validate_staged (State.sameInputs_cfg hinputs' ▸ hj) rfl
          ((badValidate_readsInputs s (assembleStage x) hinputs').trans hvalidate) hclear
    simp only [t]
    rw [unlessError_of_noError hn, unlessError_of_noError hn', hvalidated,
      finish_eq_staged_of_kept (State.keptBy_trans hkept' (validateStage_outcome _).keeps)]

theorem decodeAssemble_of_manchester {c : Ctrl} (h : ctrlPolicy c = .manchester) :
    decodeAssemble c = .instr (if ctrlDiff c then .assembleDman else .assembleMan) := by
  rw [decodeAssemble, h, apply_ite Decoded.instr]

theorem decodeValidate_of_manchester {c : Ctrl} (h : ctrlPolicy c = .manchester) :
    decodeValidate c = .instr .validateNone := by
  rw [decodeValidate, h]

/-- The rows of the raw-pair policies. -/
theorem selectedRows_of_raw {c : Ctrl} (hman : ctrlPolicy c ≠ .manchester) (hres : ctrlPolicy c ≠ .reserved) :
    decodeAssemble c = .instr (if ctrlPolicy c = .dhtMarkSpace then .assembleDht else .assemblePd) ∧
      decodeValidate c = .instr (if ctrlPolicy c = .dhtMarkSpace then .validateDht else .validateNec) := by
  unfold decodeAssemble decodeValidate
  cases hp : ctrlPolicy c
  case dhtMarkSpace | pulseDistance => exact ⟨rfl, rfl⟩
  case manchester => exact absurd hp hman
  case reserved => exact absurd hp hres

/-- NORMALIZE after CLEAR does what its stage does in DECODE, and so does MATCH if that raised no error. -/
theorem exec_front_staged {s s1 : State} (hshape : s.shaped) (hgood : s.badDecode = false)
    (hman : s.policy = .manchester) (hclear : s1.finish = s.accept.clearPipeline.staged) :
    let x := normalizeStage s.accept.clearPipeline
    exec .normalize s1 = .next x.staged ∧
      (x.noError → exec .matchPreamble x.staged = .next (matchStage x).staged) := by
  intro x
  obtain ⟨hcapture, -, -, hpatterns⟩ := accepts_of_badDecode hgood
  have hcount := symCount_le hshape ((refuses_eq_false_iff s .normalize).mp hcapture)
  have hinputs := clearPipeline_sameInputs s
  obtain ⟨hkept, -⟩ := normalizeStage_keeps s.accept.clearPipeline
  have hinputs' : s.sameInputs x := State.sameInputs_trans hinputs hkept
  have hroom : s.accept.clearPipeline.unitCount + 4 * s.accept.clearPipeline.symCount < 2 ^ 32 := by
    have hzero : s.accept.clearPipeline.unitCount = 0 :=
      congrArg BitVec.toNat (clearPipeline_unitsEmpty s.accept).1
    have hsyms : s.accept.clearPipeline.symCount = s.symCount := symCount_congr (by simp)
    omega
  constructor
  · exact exec_normalize_staged hclear ((badCapture_readsInputs _ _ hinputs).trans hcapture)
      (clearPipeline_cleared s) hroom
  · intro hn
    exact exec_match_staged (State.finish_staged x)
      ((badPatterns_readsInputs s x hinputs').trans (hpatterns hman))
      (normalizeStage_cleared (clearPipeline_cleared s) hn)

/-- Settles O43: from what CLEAR leaves on, each staged command does what its stage does in DECODE, and
DECODE stops at the first error. -/
theorem decodeAgreesWithTheStagedCommands : Obligations.DecodeAgreesWithTheStagedCommands := by
  intro s hshape hgood hgate
  have hdecode := exec_decode_of_gateOpen hgood hgate
  have hagain := exec_twice hshape hdecode
  rw [← badDecode_iff, Bool.not_eq_true] at hgood
  obtain ⟨hreserved, -⟩ := badDecode_eq_false hgood
  have hpolicy : s.accept.clearPipeline.policy = s.policy := policy_congr (by simp)
  refine ⟨fun hman => ?manchester, fun hraw => ?raw⟩
  case raw =>
    have hfront := decodeFront_of_not_manchester (hpolicy.trans_ne hraw)
    have hn : (decodeFront s.accept.clearPipeline).noError := by
      rw [hfront]
      exact State.clearPipeline_errKind _
    obtain ⟨hi, hj⟩ := selectedRows_of_raw hraw hreserved
    obtain ⟨s4, s5, h4, h5, hfourth, hfifth⟩ := decode_end hshape hgood hi hj
      (y := { s.accept.clearPipeline with rep.clsResult := ClsResult.zero }) fun _ => by rw [hfront]; rfl
    exact ⟨_, _, s4, s5, hdecode, hagain, rfl, h4, h5, hfourth hn, hfifth hn⟩
  case manchester =>
    have hfront := decodeFront_of_manchester (hpolicy.trans hman)
    obtain ⟨h2, hmatched⟩ := exec_front_staged hshape hgood hman
      (s1 := { s.accept.clearPipeline with rep.clsResult := ClsResult.zero }) rfl
    obtain ⟨s3, h3⟩ := exec_answers .matchPreamble (normalizeStage s.accept.clearPipeline).staged
    have hthird (hn : (normalizeStage s.accept.clearPipeline).noError) :
        s3 = (decodeFront s.accept.clearPipeline).staged := by
      rw [hfront, unlessError_of_noError hn]
      exact Host.Outcome.next.inj (h3.symm.trans (hmatched hn))
    have hready (hn : (decodeFront s.accept.clearPipeline).noError) :
        s3.finish = (decodeFront s.accept.clearPipeline).staged := by
      by_cases hn' : (normalizeStage s.accept.clearPipeline).noError
      · rw [hthird hn', State.finish_staged]
      · rw [hfront, unlessError_of_error hn'] at hn
        exact absurd hn hn'
    obtain ⟨s4, s5, h4, h5, hfourth, hfifth⟩ := decode_end hshape hgood
      (decodeAssemble_of_manchester hman) (decodeValidate_of_manchester hman) hready
    refine ⟨_, _, _, s3, s4, s5, hdecode, hagain, rfl, h2, h3, h4, h5, fun herr => ?_, fun hn herr => ?_,
      fun hn hn' => ?_, fun hn hn' => ?_⟩
    · rw [State.staged_noError_iff] at herr
      rw [hfront, unlessError_of_error herr, unlessError_of_error herr, unlessError_of_error herr]
      exact finish_eq_staged_of_kept (normalizeStage_keeps _)
    · rw [hthird hn, State.staged_noError_iff] at herr
      rw [hthird hn, unlessError_of_error herr, unlessError_of_error herr]
      exact finish_eq_staged_of_kept (decodeFront_keeps _)
    · exact hfourth (by rwa [hthird hn] at hn')
    · exact hfifth (by rwa [hthird hn] at hn')

end Sys2Proof.Machine

/-! ## Refusals and recorded errors (60_exceptions.md rules R243, R246 and R249) -/

namespace Sys2Proof.Machine

/-! ### Every event is answered -/

theorem runCommand_answers (w : Word) (s : State) : ∃ t, runCommand w s = .next t := by
  cases hdecode : decodeWord s.cfg.ctrl w with
  | instr i => exact runCommand_of_instr hdecode ▸ exec_answers i s
  | illegalWord => exact ⟨_, runCommand_of_illegalWord hdecode⟩
  | reservedPolicy => exact ⟨_, runCommand_of_reservedPolicy hdecode⟩

theorem perform_answers (e : HostEvent) (s : State) : ∃ t, perform e s = .next t := by
  cases e with
  | write a v =>
    by_cases hcmd : a = cmdAddr
    · rw [perform, if_pos hcmd]
      exact runCommand_answers v s
    · exact ⟨_, if_neg hcmd⟩
  | read a => exact ⟨_, rfl⟩
  | reset => exact ⟨_, rfl⟩

/-- Settles O7: an idle core holds its state, and every pending event is answered. -/
theorem everyStepAnswersANextState : Obligations.EveryStepAnswersANextState := by
  intro s
  obtain ⟨-, hidle⟩ := stepRunsTheDecodedCommand
  cases hpending : s.pending with
  | nil => exact ⟨s, hidle s hpending⟩
  | cons e rest => exact step_of_pending hpending ▸ perform_answers e _

/-! ### What leaves a recorded DecodeError -/

/-- `t` has the recorded DecodeError of `s`: ERR_KIND, ERR_UNIT, ERR_HALF and ERR_INDEX. -/
def State.keepsError (s t : State) : Prop :=
  t.rep.status.errKind = s.rep.status.errKind ∧ t.rep.status.errUnit = s.rep.status.errUnit ∧
    t.rep.status.errHalf = s.rep.status.errHalf ∧ t.rep.errIndex = s.rep.errIndex

theorem State.keepsError_of_rep {s t : State} (h : t.rep = s.rep) : s.keepsError t := by
  simp [State.keepsError, h]

/-- A refusal is not a DecodeError (rule R243). -/
theorem State.refuse_keepsError (code : CmdErr) (s : State) : s.keepsError (s.refuse code) :=
  ⟨s.refuse_errKind code, s.refuse_errUnit code, s.refuse_errHalf code, s.refuse_rep_errIndex code⟩

theorem ran_keepsError {s : State} {i : Instr} (h : i = .nop ∨ i = .classify) : s.keepsError (s.ran i) := by
  obtain rfl | rfl := h <;>
    exact ⟨s.accept_errKind, s.accept_errUnit, s.accept_errHalf, s.accept_rep_errIndex⟩

/-- Listing L220: a write to CMD is refused, or runs the row its word decodes to. -/
theorem runCommand_cases {w : Word} {s t : State} (he : runCommand w s = .next t) :
    (∃ code, t = s.refuse code) ∨ ∃ i, decodeWord s.cfg.ctrl w = .instr i ∧ t = s.ran i := by
  cases hdecode : decodeWord s.cfg.ctrl w with
  | instr i =>
    rw [runCommand_of_instr hdecode] at he
    exact (exec_cases he).imp (⟨_, ·⟩) (⟨i, rfl, ·⟩)
  | illegalWord =>
    rw [runCommand_of_illegalWord hdecode] at he
    exact .inl ⟨_, (Host.Outcome.next.inj he).symm⟩
  | reservedPolicy =>
    rw [runCommand_of_reservedPolicy hdecode] at he
    exact .inl ⟨_, (Host.Outcome.next.inj he).symm⟩

/-- A command that ran left CMD_ERR = 0, so under the last hypothesis it ran as NOP or CLASSIFY. -/
theorem runCommand_keepsError {w : Word} {s t : State} (he : runCommand w s = .next t)
    (h : decodeWord s.cfg.ctrl w = .instr .nop ∨ decodeWord s.cfg.ctrl w = .instr .classify ∨
      t.rep.status.cmdErr ≠ .accepted) : s.keepsError t := by
  obtain ⟨code, rfl⟩ | ⟨i, hdecode, rfl⟩ := runCommand_cases he
  · exact s.refuse_keepsError code
  · have hrow : i = .nop ∨ i = .classify := by simpa [hdecode, ran_cmdErr] using h
    exact ran_keepsError hrow

/-- Settles O47: a read and a register write leave all of `rep`; of the commands, `runCommand_keepsError`. -/
theorem errorsStayUntilTheNextStageCommand : Obligations.ErrorsStayUntilTheNextStageCommand := by
  intro s t e rest hpending hstep hevent
  change s.keepsError t
  obtain ⟨a, rfl⟩ | ⟨a, v, rfl, hcmd⟩ | ⟨w, rfl, hword⟩ := hevent
  case inl =>
    rw [step_read hpending] at hstep
    cases hstep
    exact State.keepsError_of_rep rfl
  case inr.inl =>
    obtain ⟨t', ht', -, hrep, -⟩ := registerWritesNeverTouchResults s a v rest hpending hcmd
    cases hstep.symm.trans ht'
    exact State.keepsError_of_rep hrep
  case inr.inr =>
    rw [step_command hpending] at hstep
    exact runCommand_keepsError (s := { s with pending := rest, rdata := none }) hstep hword

end Sys2Proof.Machine

/-! ## The reset input (70_reset_and_hazards.md rule R260) -/

namespace Sys2Proof.Machine

theorem step_reset {s : State} {rest : List HostEvent} (h : s.pending = .reset :: rest) :
    step s = .next { s with pending := rest, rdata := none }.applyReset := by
  rw [step_of_pending h, perform]

/-- Settles O13: the fill that all register groups share is the free value of this reset (log entry 4). -/
theorem resetInputRestartsTheCore : Obligations.ResetInputRestartsTheCore :=
  fun s _ hpending =>
    ⟨Config.unspecified s.resets, _, step_reset hpending, rfl, rfl, rfl, rfl, rfl, rfl, rfl, rfl⟩

end Sys2Proof.Machine
